-- ==== Sys2Proof/Word.lean ====
section
/-!
DEFINITION. The word types of the transaction controller (00_scope.md R9): every value is an unsigned
integer of a stated width.
-/

namespace Sys2Proof

/-- `u32`: a host register, a microsecond time, a counter (00 R9). -/
abbrev Word := BitVec 32

/-- `u8`: a buffer byte (00 R9). -/
abbrev Byte := BitVec 8

/-- A 7-bit slave address (`ADDR_BITS = 7`, 00 R6). -/
abbrev Addr7 := BitVec 7

/-- One bit as a 32-bit word shifted to position `k`: the term `b<<k` of 46 R270. -/
def bitAt (b : Bool) (k : Nat) : Word := (BitVec.ofBool b).setWidth 32 <<< k

end Sys2Proof
end

