-- ==== Sys2Proof/Syntax.lean ====
section
/-!
DEFINITION. The commands of the host command word, one constructor per row of spec/opcode_table.json
(30_encoding.md R93). A constructor carries the CMD fields its command uses (30 R90, R92); the operands in
ARG0 to ARG2 are state.
-/

namespace Sys2Proof

/-- The fifteen commands. `s` is the stop flag (CMD bit 8), `d` selects the default budget (CMD bit 9) and
`nbytes` is the byte count `N + 1` (CMD bits 11:10, 30 R91). -/
inductive Instr where
  | configure
  | setStrategy
  | setRate
  | beginWrite
  | writeByte
  | writeBytes (nbytes : Nat)
  | endWrite (s d : Bool)
  | sendWrite (s : Bool)
  | read (s d : Bool)
  | sendRead (s : Bool)
  | await (d : Bool)
  | slaveRelease
  | resetBus
  | resetErrcnt
  | eoi
  deriving DecidableEq, Repr

end Sys2Proof
end

