-- ==== Sys2Proof/WellFormed.lean ====
section
/-!
DEFINITION. Which terms of `Instr` stand for a command word (30_encoding.md R91).
-/

namespace Sys2Proof

/-- The one field with a bound: WRITE_BYTES appends 1 to 4 bytes (30 R91). -/
def Instr.wf : Instr → Bool
  | .writeBytes nbytes => decide (1 ≤ nbytes) && decide (nbytes ≤ 4)
  | .configure => true
  | .setStrategy => true
  | .setRate => true
  | .beginWrite => true
  | .writeByte => true
  | .endWrite _ _ => true
  | .sendWrite _ => true
  | .read _ _ => true
  | .sendRead _ => true
  | .await _ => true
  | .slaveRelease => true
  | .resetBus => true
  | .resetErrcnt => true
  | .eoi => true

end Sys2Proof
end

