-- ==== Sys2Proof/Decode.lean ====
section
/-!
DEFINITION. The command word (30_encoding.md R90, R91, R93, R101): decoding, encoding, and the word the
host's opcode table numbers.
-/

namespace Sys2Proof

/-- Why a word is no command: its opcode is not in the map (30 R101). -/
inductive DecodeError where
  | illegalOpcode (opc : Byte)
  deriving DecidableEq, Repr

/-- `OPC = CMD[7:0]` (30 R91). -/
def fieldOpc (w : Word) : Byte := w.extractLsb' 0 8

/-- `S = CMD[8]` (30 R91). -/
def fieldS (w : Word) : Bool := w.getLsbD 8

/-- `D = CMD[9]` (30 R91). -/
def fieldD (w : Word) : Bool := w.getLsbD 9

/-- `nbytes = CMD[11:10] + 1` (30 R91). -/
def fieldNbytes (w : Word) : Nat := (w.extractLsb' 10 2).toNat + 1

/-- The command of a word whose opcode is `opc`, the fields being those of `w` (30 R93). -/
def decodeOpc (opc : Nat) (w : Word) : Option Instr :=
  match opc with
  | 0x01 => some .configure
  | 0x02 => some .setStrategy
  | 0x03 => some .setRate
  | 0x10 => some .beginWrite
  | 0x11 => some .writeByte
  | 0x12 => some (.writeBytes (fieldNbytes w))
  | 0x13 => some (.endWrite (fieldS w) (fieldD w))
  | 0x14 => some (.sendWrite (fieldS w))
  | 0x15 => some (.read (fieldS w) (fieldD w))
  | 0x16 => some (.sendRead (fieldS w))
  | 0x17 => some (.await (fieldD w))
  | 0x20 => some .slaveRelease
  | 0x30 => some .resetBus
  | 0x31 => some .resetErrcnt
  | 0x3F => some .eoi
  | _ => none

/-- The decoder: total on every 32-bit word. Bits 31:12 and the fields a command does not use are ignored
(30 R91); an opcode outside the map is rejected by name (30 R101). -/
def decode (w : Word) : Except DecodeError Instr :=
  match decodeOpc (fieldOpc w).toNat w with
  | some i => .ok i
  | none => .error (.illegalOpcode (fieldOpc w))

/-- The opcode of a command (30 R93). -/
def Instr.opc : Instr → Byte
  | .configure => 0x01
  | .setStrategy => 0x02
  | .setRate => 0x03
  | .beginWrite => 0x10
  | .writeByte => 0x11
  | .writeBytes _ => 0x12
  | .endWrite _ _ => 0x13
  | .sendWrite _ => 0x14
  | .read _ _ => 0x15
  | .sendRead _ => 0x16
  | .await _ => 0x17
  | .slaveRelease => 0x20
  | .resetBus => 0x30
  | .resetErrcnt => 0x31
  | .eoi => 0x3F

/-- The stop flag a command carries, 0 where it uses none (30 R90, R92). -/
def Instr.stopBit : Instr → Bool
  | .endWrite s _ => s
  | .sendWrite s => s
  | .read s _ => s
  | .sendRead s => s
  | _ => false

/-- The default-budget flag a command carries, 0 where it uses none (30 R90, R92). -/
def Instr.defaultBit : Instr → Bool
  | .endWrite _ d => d
  | .read _ d => d
  | .await d => d
  | _ => false

/-- The field `N` a command carries, 0 where it uses none (30 R90, R92). -/
def Instr.countField : Instr → BitVec 2
  | .writeBytes nbytes => BitVec.ofNat 2 (nbytes - 1)
  | _ => 0

/-- The encoder: the CMD word of a command, bits 31:12 zero (30 R90). -/
def encode (i : Instr) : Word :=
  (0 : BitVec 20) ++ i.countField ++ BitVec.ofBool i.defaultBit ++ BitVec.ofBool i.stopBit ++ i.opc

/-- The command the decoder reads from an instruction whose first `nbits` bits are `w`, numbered from bit 0
of the CMD word, every bit above them being 0. -/
def decodeTableWord (nbits w : Nat) : Option Instr :=
  match decode (BitVec.ofNat 32 (w % 2 ^ nbits)) with
  | .ok i => some i
  | .error _ => none

end Sys2Proof
end

