-- ==== Sys2Proof/Machine/Events.lean ====
section
/-!
DEFINITION. The words of the ports: link commands and events (30_encoding.md R105, R106), DMA commands and
events (44_dma_handoff.md R220, R221), host accesses (20_memory.md R74), the names of the event rules, and the
moves of the agents (00_scope.md R8).
-/

namespace Sys2Proof.Machine

/-- A link event, as LINK places it in the slot `lev` (30 R106). -/
inductive LinkEv where
  | tc (arbl rxak : Bool)
  | rc (arbl : Bool) (data : Byte)
  | addr (a : Addr7) (rw : Bool)
  | srx (data : Byte)
  | stx (ack : Bool)
  | stopf
  deriving DecidableEq, Repr

/-- A DMA event, as the DMA agent places it in the slot `dev` (44 R220). -/
inductive DmaEv where
  | done
  | err
  deriving DecidableEq, Repr

/-- The direction of a programmed DMA channel (44 R220). -/
inductive DmaDir where
  | tx
  | rx
  deriving DecidableEq, Repr

/-- A command the TC, or the DMA agent for it, gives a port: the link commands and the recovery pin drives of
30 R105, and the DMA port commands of 44 R220. -/
inductive PortCmd where
  | start
  | rstart
  | write (b : Byte)
  | recv (nak : Bool)
  | stop
  | rate (code : Word)
  | pins (gpio : Bool)
  | sclLow
  | sclRelease
  | sdaRelease
  | dmaProgram (dir : DmaDir) (first count : Nat)
  | dmaEnable
  | dmaDisable
  | dmaClear
  deriving DecidableEq, Repr

/-- A byte the link was given as master and has not completed: the model's bookkeeping for
30 R107 (b), (c). -/
inductive Issued where
  | write
  | recv
  deriving DecidableEq, Repr

/-- The event rules of the TC, each named after what it does. -/
inductive Rule where
  /-- 41 R145, the acquisition poll. -/
  | acquire
  /-- 41 R151, one step of the recovery sequencer. -/
  | recover
  /-- 43 R196, the timeout application. -/
  | timeout
  /-- 42 R169, R170, a transmitted byte completed. -/
  | txDone
  /-- 43 R199, the address byte of a receive completed. -/
  | addrDone
  /-- 43 R200, a byte received that is not the last. -/
  | rxByte
  /-- 43 R201, the last byte received. -/
  | rxFinal
  /-- 44 R225, an error completion during Bulk. -/
  | bulkError
  /-- 44 R226, DMA_DONE. -/
  | dmaDone
  /-- 44 R227, DMA_ERR. -/
  | dmaError
  /-- 44 R228, a stale DMA event. -/
  | dmaStale
  /-- 45 R244, step A of an address match. -/
  | boundary
  /-- 45 R245, step B of an address match. -/
  | dispatch
  /-- 45 R248, a byte received as slave. -/
  | slaveRx
  /-- 45 R249, a byte transmitted as slave. -/
  | slaveTx
  /-- 45 R251, the hardware stop flag. -/
  | stopDetect
  /-- 45 R252, an SDA rising edge. -/
  | sdaEdge
  /-- 45 R253, an unexpected event is discarded. -/
  | unexpected
  deriving DecidableEq, Repr

/-- A step of the DMA agent (44 R221, items 1, 2 and 4). -/
inductive DmaStep where
  | txElement
  | rxIssue
  | error
  deriving DecidableEq, Repr

/-- A move that concerns one instance: one of its rules fires, LINK, DMA or PINS acts on its ports, or its
power-on reset is applied (00 R8, 70 R320). -/
inductive BusMove where
  | rule (r : Rule)
  | deliver (ev : LinkEv)
  | linkBusy (b : Bool)
  | linkArbl (b : Bool)
  | dmaAvailable (b : Bool)
  | dma (d : DmaStep)
  | sda (b : Bool)
  | scl (b : Bool)
  | sdaRise
  | powerOn
  deriving DecidableEq, Repr

/-- A host address: `BASE[n] + off`, the form of 20 R74, or a plain number. -/
inductive HostAddr where
  | reg (n off : Nat)
  | abs (a : Nat)
  deriving DecidableEq, Repr

/-- A host access: `MemRead(addr, size)` or `MemWrite(addr, size, v)` (20 R74). -/
inductive Access where
  | read (addr : HostAddr) (size : Nat)
  | write (addr : HostAddr) (size : Nat) (v : Word)
  deriving DecidableEq, Repr

/-- One atomic step of one agent (00 R8, 20 R78). -/
inductive Move where
  /-- HOST accesses a register. -/
  | host (a : Access)
  /-- HOST presents a new execution priority (60 R312). -/
  | hostPrio (p : Nat)
  /-- TIMER advances `now_us` (60 R303). -/
  | time (dt : Word)
  /-- A move of instance `n`, counted from 0. -/
  | bus (n : Nat) (m : BusMove)
  deriving DecidableEq, Repr, Inhabited

end Sys2Proof.Machine
end

