-- ==== Sys2Proof/Config.lean ====
section
/-!
DEFINITION. What an implementation fixes (00_scope.md R6) and the free values. Every constant declared
`opaque` has no body: nothing can be proved of its value, so a claim holds for every value (log 2, log 3).
-/

namespace Sys2Proof

/-- `RECOVERY_SCL_WAIT`: unbounded, or bounded by `extra + 1` microseconds, so that `n ≥ 1` (00 R6, 92 D29). -/
inductive SclWait where
  | unbounded
  | bounded (extra : Nat)
  deriving DecidableEq, Repr, Inhabited

/-- The implementation parameters of 00 R6. A parameter with a least value holds the excess over it, so that
every value of the structure is a legal one. -/
structure Params where
  /-- `TX_CAP - 2`. -/
  txExtra : Nat
  /-- `RX_CAP - 1`. -/
  rxExtra : Nat
  /-- `PRIO_MAX - 1`. -/
  prioExtra : Nat
  /-- `IRQ_PRIO_RESET` before it is cut to `PRIO_MAX`. -/
  irqPrioReset : Nat
  /-- `RATE_RESET`. -/
  rateReset : Word
  /-- `HAS_STOPF`. -/
  hasStopf : Bool
  /-- `SPURIOUS_EDGE_LIMIT - 1`. -/
  edgeExtra : Nat
  /-- `RECOVERY_SCL_WAIT`. -/
  sclWait : SclWait
  deriving DecidableEq, Repr

namespace Config

/-- `TX_CAP - 2`, OPEN (00 R6). -/
opaque txExtra : Nat
/-- `RX_CAP - 1`, OPEN (00 R6). -/
opaque rxExtra : Nat
/-- `PRIO_MAX - 1`, OPEN (00 R6). -/
opaque prioExtra : Nat
/-- `IRQ_PRIO_RESET`, OPEN (00 R6). -/
opaque irqPrioReset : Nat
/-- `RATE_RESET`, OPEN (00 R6). -/
opaque rateReset : Word
/-- `HAS_STOPF`, OPEN (00 R6). -/
opaque hasStopf : Bool
/-- `SPURIOUS_EDGE_LIMIT - 1`, OPEN (00 R6). -/
opaque edgeExtra : Nat
/-- `RECOVERY_SCL_WAIT`, OPEN (00 R6). -/
opaque sclWait : SclWait
/-- `NBUS - 1`, OPEN (00 R6). -/
opaque busExtra : Nat
/-- `BASE[i]`, OPEN (00 R6). -/
opaque base : Nat → Nat
/-- FREE VALUE: the move some agent takes when the script says none, the `n`-th such choice
(00 R8, 93 U24, log 2). -/
opaque freeMove : Nat → Machine.Move

/-- The parameters of the machine, every OPEN one a free constant (log 3). -/
def params : Params where
  txExtra := txExtra
  rxExtra := rxExtra
  prioExtra := prioExtra
  irqPrioReset := irqPrioReset
  rateReset := rateReset
  hasStopf := hasStopf
  edgeExtra := edgeExtra
  sclWait := sclWait

end Config

/-- `TX_CAP`, at least 2 (00 R6). -/
def Params.txCap (p : Params) : Nat := p.txExtra + 2

/-- `RX_CAP`, at least 1 (00 R6). -/
def Params.rxCap (p : Params) : Nat := p.rxExtra + 1

/-- `PRIO_MAX`, at least 1 (00 R6). -/
def Params.prioMax (p : Params) : Nat := p.prioExtra + 1

/-- `SPURIOUS_EDGE_LIMIT`, at least 1 (00 R6). -/
def Params.edgeLimit (p : Params) : Nat := p.edgeExtra + 1

/-- `DMA_THRESH_RESET` (00 R6). -/
def dmaThreshReset : BitVec 16 := 5

/-- `RECOVERY_TOGGLES` (00 R6). -/
def recoveryToggles : Nat := 9

end Sys2Proof
end

