-- ==== Sys2Proof/Machine/State.lean ====
section
/-!
DEFINITION. The state of the machine: every element of 10_state.md for each instance, the ports' state of
10 R32, the parameters of 00_scope.md R6, and the moves still to come. INVENTORY.md lists each field.
-/

namespace Sys2Proof.Machine

/-- `mode` (10 R25). -/
inductive Mode where
  | master
  | slave
  deriving DecidableEq, Repr

/-- `strategy` and `eff` (10 R25); code 3 is never held. -/
inductive Strategy where
  | immediate
  | interrupt
  | dma
  deriving DecidableEq, Repr

/-- `status` (10 R22); codes 13 to 15 are never held. -/
inductive Status where
  | waiting
  | sending
  | sendAddr
  | receiving
  | slaveTx
  | slaveRx
  | timeout
  | addrNak
  | dataNak
  | arbitrationLost
  | bufferOverflow
  | busNotAcquired
  | dmaError
  deriving DecidableEq, Repr

/-- `dma_phase` (10 R25). -/
inductive DmaPhase where
  | off
  | addr
  | bulk
  | last
  deriving DecidableEq, Repr

/-- `cmd_op` (10 R27). -/
inductive CmdOp where
  | none
  | acq
  | xfer
  | await
  | recover
  deriving DecidableEq, Repr

/-- `cmd_kind` (10 R27). -/
inductive Kind where
  | tx
  | rx
  deriving DecidableEq, Repr

/-- `hold` (10 R29). -/
inductive Hold where
  | none
  | srx
  | sreq
  deriving DecidableEq, Repr

/-- `rec_step` (10 R30). -/
inductive RecStep where
  | idle
  | sample
  | low
  | high
  deriving DecidableEq, Repr

/-- The seven categories of the error counters, in slot order (10 R31). -/
inductive ErrCat where
  | busReset
  | timeout
  | addrNak
  | dataNak
  | arbLost
  | acqFail
  | dmaErr
  deriving DecidableEq, Repr

/-- The five host events, in bit order (60 R294). -/
inductive HostEv where
  | srxDone
  | sreq
  | mtxDone
  | mrxDone
  | err
  deriving DecidableEq, Repr

/-- The two buffers of 20 R70. -/
inductive Buffer where
  | tx
  | rx
  deriving DecidableEq, Repr

/-- A buffer's cells, sorted by index with no index twice. An unlisted cell holds no value (10 R35). -/
abbrev Memory := List Host.Cell

/-- Configuration (10 R25). -/
structure CfgRegs where
  mode : Mode
  strategy : Strategy
  autoRetry : Bool
  prioChk : Bool
  rangeEn : Bool
  addr1 : Addr7
  addr2 : Addr7
  rate : Word
  timeoutDefault : Word
  dmaThresh : BitVec 16
  irqPrio : Nat
  irqEn : BitVec 5
  dmaAlloc : Bool
  deriving DecidableEq, Repr

/-- Transfer control (10 R22, R25). -/
structure XferRegs where
  status : Status
  eff : Strategy
  stopReq : Bool
  masterHeld : Bool
  dmaPhase : DmaPhase
  toFlag : Bool
  toApplied : Bool
  inflightNak : Bool
  ovf : Bool
  rxTarget : Addr7
  deriving DecidableEq, Repr

/-- Buffers and cursors (10 R26). -/
structure BufRegs where
  txbuf : Memory
  txlen : Nat
  txidx : Nat
  rxbuf : Memory
  rxlen : Nat
  rxidx : Nat
  rxreq : Word
  deriving DecidableEq, Repr

/-- Command interface (10 R27). -/
structure CmdRegs where
  arg0 : Word
  arg1 : Word
  arg2 : Word
  result : Word
  busy : Bool
  op : CmdOp
  kind : Kind
  blocking : Bool
  t0 : Word
  budget : Word
  acqRetried : Bool
  reject : Bool
  illegal : Bool
  deriving DecidableEq, Repr

/-- Host events (10 R28). -/
structure EvRegs where
  irqPend : BitVec 5
  isrDepth : Byte
  deriving DecidableEq, Repr

/-- Slave dispatcher (10 R29). -/
structure SlaveRegs where
  hold : Hold
  boundaryDone : Bool
  rxaddr : Addr7
  srxCount : Word
  watchArmed : Bool
  spuriousCnt : Word
  deriving DecidableEq, Repr

/-- Recovery sequencer (10 R30). -/
structure RecRegs where
  step : RecStep
  t : Word
  k : Nat
  internal : Bool
  resultK : Nat
  stuck : Bool
  pinsGpio : Bool
  deriving DecidableEq, Repr

/-- The error counters `errcnt[0..6]` (10 R31). -/
structure ErrCnt where
  busReset : Word
  timeout : Word
  addrNak : Word
  dataNak : Word
  arbLost : Word
  acqFail : Word
  dmaErr : Word
  deriving DecidableEq, Repr

/-- The ports' state the guards read (10 R32), but for `host_prio` and `now_us`, which all instances share. -/
structure PortRegs where
  lev : Option LinkEv
  dev : Option DmaEv
  linkBusy : Bool
  linkArbl : Bool
  dmaAvailable : Bool
  sda : Bool
  scl : Bool
  sdaRise : Bool
  deriving DecidableEq, Repr

/-- The DMA agent's own state (10 R32, 44 R221): `dma_dir`, `dma_next`, `dma_end`, `dma_en`, `dma_ready`,
`dma_pend`. -/
structure DmaRegs where
  dir : DmaDir
  next : Nat
  last : Nat
  enabled : Bool
  ready : Bool
  pending : Bool
  deriving DecidableEq, Repr

/-- The model's own bookkeeping of the link (log 7, log 8, log 9): the master bytes given and not yet
completed, whether a slave byte is being sent, whether the link stretches SCL until an L_WRITE, and every port
command so far, oldest first. -/
structure LinkRegs where
  issued : List Issued
  slaveByte : Bool
  stretched : Bool
  sent : List PortCmd
  deriving DecidableEq, Repr

/-- One instance of the transaction controller with its ports. `base` is `BASE[i]` (00 R6). -/
structure Tc where
  base : Nat
  cfg : CfgRegs
  xfer : XferRegs
  buf : BufRegs
  cmd : CmdRegs
  ev : EvRegs
  slave : SlaveRegs
  rcv : RecRegs
  err : ErrCnt
  port : PortRegs
  dma : DmaRegs
  link : LinkRegs
  deriving DecidableEq, Repr

/-- The whole machine. The instances, in order, are `before`, `tc`, `after`: `tc` is the one the last move
concerned (60 R305, log 11). `hostPrio` and `nowUs` are shared. `rdata` is the value the last MemRead
returned (log 10). `script` holds the moves to come and `draws` counts the free ones (log 1, log 2). -/
structure State where
  par : Params
  before : List Tc
  tc : Tc
  after : List Tc
  hostPrio : Nat
  nowUs : Word
  rdata : Option Word
  script : List Move
  draws : Nat
  deriving DecidableEq, Repr

/-- Why the machine stops with a fault. -/
inductive Fault where
  /-- Raised by a host access of a size other than 4 or at an offset that is no multiple of 4
  (20 R72, 60 R292). The spec's own fault, code 1. Safe. -/
  | hostAccess (off : Nat)
  /-- Raised by a rule that reads a buffer cell holding no value (10 R35, 93 U7). Safe: the model stops. -/
  | unwrittenCell (b : Buffer) (i : Nat)
  /-- Raised by a rule that stores a received byte outside the receive buffer (10 R26, log 12). Safe: the
  model stops. -/
  | outsideBuffer (b : Buffer) (i : Nat)
  deriving DecidableEq, Repr

/-- A clause of the environment's contract that a move breaks. -/
inductive Clause where
  /-- 30 R107 (a): the slot `lev` is full. -/
  | levFull
  /-- 30 R107 (b), (c): the event answers no byte the link was given. -/
  | notIssued
  /-- 30 R107 (f): a slave event in master mode. -/
  | masterMode
  /-- 30 R107 (g): the address does not match. -/
  | noMatch
  /-- 30 R107 (g), 45 R243: the link stretches SCL. -/
  | stretching
  /-- 30 R107 (h): the pins are in GPIO mode. -/
  | pinsGpio
  /-- 30 R106, 45 R251: there is no hardware stop flag. -/
  | noStopFlag
  /-- 44 R221: the DMA agent has no such step. -/
  | noDmaStep
  /-- 44 R221 (5): the slot `dev` is full. -/
  | devFull
  /-- 45 R252: the edge watch is not armed. -/
  | watchOff
  /-- 30 R108: the priority is above PRIO_MAX. -/
  | prioRange
  /-- 60 R303: the timer advances by a positive amount. -/
  | noTime
  deriving DecidableEq, Repr

/-- Why a move has no meaning. -/
inductive Refusal where
  /-- Raised by an arm of exec whose instruction has no meaning yet. Safe. -/
  | notModelled (mnemonic : String)
  /-- Raised when the script names a rule whose guard does not hold: the agent has no such step
  (00 R9, log 1). Safe: the model has no successor where the spec has none. -/
  | notEnabled (r : Rule)
  /-- Raised when a move of LINK, DMA, PINS, TIMER or HOST breaks the contract of that agent: a run outside
  the spec (30 R107, log 7). Safe where the clause is the spec's own words. -/
  | outsideContract (c : Clause)
  /-- Raised by a host access outside every instance's block (20 R70, log 11). Safe. -/
  | outsideBlocks (a : HostAddr)
  /-- Raised by a move of an instance that does not exist (log 11). Safe. -/
  | noInstance (n : Nat)
  deriving DecidableEq, Repr

/-- One instance after power-on reset (70 R320), its ports as log 4 and log 5 present them. -/
def Tc.reset (p : Params) (base : Nat) : Tc where
  base := base
  cfg :=
    { mode := .master, strategy := .immediate, autoRetry := false, prioChk := true, rangeEn := false,
      addr1 := 0, addr2 := 0, rate := p.rateReset, timeoutDefault := 0, dmaThresh := dmaThreshReset,
      irqPrio := min p.irqPrioReset p.prioMax, irqEn := 0, dmaAlloc := false }
  xfer :=
    { status := .waiting, eff := .immediate, stopReq := false, masterHeld := false, dmaPhase := .off,
      toFlag := false, toApplied := false, inflightNak := false, ovf := false, rxTarget := 0 }
  buf := { txbuf := [], txlen := 0, txidx := 0, rxbuf := [], rxlen := 0, rxidx := 0, rxreq := 0 }
  cmd :=
    { arg0 := 0, arg1 := 0, arg2 := 0, result := 0, busy := false, op := .none, kind := .tx,
      blocking := false, t0 := 0, budget := 0, acqRetried := false, reject := false, illegal := false }
  ev := { irqPend := 0, isrDepth := 0 }
  slave :=
    { hold := .none, boundaryDone := false, rxaddr := 0, srxCount := 0, watchArmed := false,
      spuriousCnt := 0 }
  rcv :=
    { step := .idle, t := 0, k := 0, internal := false, resultK := 0, stuck := false, pinsGpio := false }
  err := { busReset := 0, timeout := 0, addrNak := 0, dataNak := 0, arbLost := 0, acqFail := 0, dmaErr := 0 }
  port :=
    { lev := none, dev := none, linkBusy := false, linkArbl := false, dmaAvailable := true, sda := true,
      scl := true, sdaRise := false }
  dma := { dir := .tx, next := 1, last := 0, enabled := false, ready := false, pending := false }
  link := { issued := [], slaveByte := false, stretched := false, sent := [] }

/-- The machine right after power-on reset of every instance, with parameters `p` and the base addresses
`base` and `bases` of its instances (70 R320). -/
def State.resetWith (p : Params) (base : Nat) (bases : List Nat) : State where
  par := p
  before := []
  tc := Tc.reset p base
  after := bases.map (Tc.reset p)
  hostPrio := 0
  nowUs := 0
  rdata := none
  script := []
  draws := 0

/-- The machine right after reset, every OPEN parameter of 00 R6 free (log 3). -/
def State.reset : State :=
  State.resetWith Config.params (Config.base 0)
    ((List.range Config.busExtra).map fun i => Config.base (i + 1))

end Sys2Proof.Machine
end

