-- ==== Sys2Proof/Machine/Flags.lean ====
section
/-!
DEFINITION. Everything computed from the state without changing it: the numeric codes, the derived predicates
of 10_state.md R33, the service grant, the error code, and the words of the STATUS, CONFIG, ADDR and RECOVERY
registers.
-/

namespace Sys2Proof.Machine

/-- The numeric code of a status (10 R22). -/
def statusCode : Status → BitVec 4
  | .waiting => 0
  | .sending => 1
  | .sendAddr => 2
  | .receiving => 3
  | .slaveTx => 4
  | .slaveRx => 5
  | .timeout => 6
  | .addrNak => 7
  | .dataNak => 8
  | .arbitrationLost => 9
  | .bufferOverflow => 10
  | .busNotAcquired => 11
  | .dmaError => 12

/-- The numeric code of a strategy (10 R25). -/
def strategyCode : Strategy → BitVec 2
  | .immediate => 0
  | .interrupt => 1
  | .dma => 2

/-- The numeric code of a DMA phase (10 R25). -/
def dmaPhaseCode : DmaPhase → BitVec 2
  | .off => 0
  | .addr => 1
  | .bulk => 2
  | .last => 3

/-- The numeric code of a hold (30 R97). -/
def holdCode : Hold → BitVec 2
  | .none => 0
  | .srx => 1
  | .sreq => 2

/-- The mode bit: 0 Master, 1 Slave (10 R25). -/
def modeBit : Mode → Bool
  | .master => false
  | .slave => true

/-- The bit of a host event in IRQ_EN, IRQ_PEND and IRQ_CLAIM (60 R294). -/
def eventMask : HostEv → BitVec 5
  | .srxDone => 0b00001
  | .sreq => 0b00010
  | .mtxDone => 0b00100
  | .mrxDone => 0b01000
  | .err => 0b10000

/-- `done` of a status (10 R33). -/
def statusDone : Status → Bool
  | .waiting => true
  | .timeout => true
  | .addrNak => true
  | .dataNak => true
  | .arbitrationLost => true
  | .bufferOverflow => true
  | .busNotAcquired => true
  | .dmaError => true
  | .sending => false
  | .sendAddr => false
  | .receiving => false
  | .slaveTx => false
  | .slaveRx => false

/-- `master_active` of a status (10 R33). -/
def statusMasterActive (st : Status) : Bool :=
  st == .sending || st == .sendAddr || st == .receiving

/-- `slave_active` of a status (10 R33). -/
def statusSlaveActive (st : Status) : Bool :=
  st == .slaveTx || st == .slaveRx

/-- `done` (10 R33). -/
def isDone (s : State) : Bool := statusDone s.tc.xfer.status

/-- `master_active` (10 R33). -/
def masterActive (s : State) : Bool := statusMasterActive s.tc.xfer.status

/-- `slave_active` (10 R33). -/
def slaveActive (s : State) : Bool := statusSlaveActive s.tc.xfer.status

/-- `elapsed = (now_us - cmd_t0) mod 2^32` (10 R33). -/
def elapsed (s : State) : Word := s.nowUs - s.tc.cmd.t0

/-- `expired = cmd_budget ≠ 0 and elapsed ≥ cmd_budget` (10 R33). -/
def expired (s : State) : Bool :=
  s.tc.cmd.budget != 0 && decide (s.tc.cmd.budget ≤ elapsed s)

/-- `isr_class` (10 R33). -/
def isrClass (s : State) : Bool := s.tc.xfer.eff == .interrupt || s.tc.xfer.eff == .dma

/-- `grant = irq_prio > host_prio` (60 R297). -/
def grant (s : State) : Bool := decide (s.hostPrio < s.tc.cfg.irqPrio)

/-- The class of a step of a master transfer is enabled: TC-ISR under the grant, else TC-FG with a transfer
command in progress (42 R168, 43 R194). -/
def transferClass (s : State) : Bool :=
  if isrClass s then grant s else s.tc.cmd.busy && s.tc.cmd.op == .xfer

/-- The interrupt request output `irq` (60 R295). -/
def irqLine (s : State) : Bool := s.tc.ev.irqPend &&& s.tc.cfg.irqEn != 0

/-- The event is one of slave mode (30 R106, R107 (f)). -/
def isSlaveEvent : LinkEv → Bool
  | .addr _ _ => true
  | .srx _ => true
  | .stx _ => true
  | .stopf => true
  | .tc _ _ => false
  | .rc _ _ => false

/-- The address match predicate (45 R241). -/
def addrMatches (s : State) (a : Addr7) : Bool :=
  if s.tc.cfg.rangeEn then
    decide (min s.tc.cfg.addr1.toNat s.tc.cfg.addr2.toNat ≤ a.toNat) &&
      decide (a.toNat ≤ max s.tc.cfg.addr1.toNat s.tc.cfg.addr2.toNat)
  else a == s.tc.cfg.addr1

/-- `ERRCODE()` (46 R280). -/
def errCode (s : State) : Word :=
  if !isDone s then 0xFF
  else if s.tc.xfer.ovf || s.tc.xfer.status == .bufferOverflow then 1
  else if s.tc.xfer.status == .addrNak then 2
  else if s.tc.xfer.status == .dataNak then 3
  else if s.tc.xfer.status == .arbitrationLost || s.tc.xfer.status == .timeout
      || s.tc.xfer.status == .busNotAcquired || s.tc.xfer.status == .dmaError then 4
  else 0

/-- The STATUS word (46 R270, 30 R97). -/
def statusWord (s : State) : Word :=
  (statusCode s.tc.xfer.status).setWidth 32
    ||| bitAt (isDone s) 4
    ||| bitAt s.tc.port.linkBusy 5
    ||| bitAt s.tc.xfer.masterHeld 6
    ||| ((dmaPhaseCode s.tc.xfer.dmaPhase).setWidth 32 <<< 7)
    ||| bitAt s.tc.xfer.ovf 9
    ||| bitAt s.tc.cmd.busy 10
    ||| bitAt s.tc.xfer.toFlag 11
    ||| bitAt s.tc.rcv.stuck 12
    ||| ((holdCode s.tc.slave.hold).setWidth 32 <<< 13)
    ||| bitAt s.tc.slave.watchArmed 15
    ||| ((strategyCode s.tc.xfer.eff).setWidth 32 <<< 16)
    ||| bitAt (modeBit s.tc.cfg.mode) 18
    ||| bitAt s.tc.cmd.reject 30
    ||| bitAt s.tc.cmd.illegal 31

/-- The CONFIG word (30 R98, 46 R271). -/
def configWord (s : State) : Word :=
  bitAt (modeBit s.tc.cfg.mode) 0
    ||| ((strategyCode s.tc.cfg.strategy).setWidth 32 <<< 1)
    ||| bitAt s.tc.cfg.autoRetry 3
    ||| bitAt s.tc.cfg.prioChk 4
    ||| bitAt s.tc.cfg.rangeEn 5
    ||| bitAt s.tc.cfg.dmaAlloc 6

/-- The ADDR word (30 R96, 46 R271). -/
def addrWord (s : State) : Word :=
  s.tc.cfg.addr1.setWidth 32 ||| (s.tc.cfg.addr2.setWidth 32 <<< 8)

/-- The layout of the RECOVERY register and of RESET_BUS's result: toggles in bits 3:0, stuck in bit 8
(30 R96, 41 R152). -/
def recoveryWord (stuck : Bool) (k : Nat) : Word :=
  (BitVec.ofNat 4 k).setWidth 32 ||| bitAt stuck 8

/-- The address byte `{a, rw}` (20 R76). -/
def addressByte (a : Addr7) (rw : Bool) : Byte := a ++ BitVec.ofBool rw

end Sys2Proof.Machine
end

