-- ==== Sys2Proof/Machine/Operands.lean ====
section
/-!
DEFINITION. Operand assembly: the fields of ARG0 to ARG2 that commands read (30_encoding.md R92), and the fields
of a value the host writes to a register (46_status_telemetry.md R272).
-/

namespace Sys2Proof.Machine

/-- A strategy code; 3 is reserved (30 R102). -/
def strategyOfCode (c : BitVec 2) : Option Strategy :=
  match c.toNat with
  | 0 => some .immediate
  | 1 => some .interrupt
  | 2 => some .dma
  | _ => none

/-- CONFIGURE `ARG0[0]` MODE (30 R92). -/
def argMode (s : State) : Mode := if s.tc.cmd.arg0.getLsbD 0 then .slave else .master

/-- CONFIGURE `ARG0[2:1]` STRATEGY (30 R92). -/
def argConfigStrategy (s : State) : Option Strategy := strategyOfCode (s.tc.cmd.arg0.extractLsb' 1 2)

/-- CONFIGURE `ARG0[3]` AUTO_RETRY (30 R92). -/
def argAutoRetry (s : State) : Bool := s.tc.cmd.arg0.getLsbD 3

/-- CONFIGURE `ARG0[4]` PRIO_CHK (30 R92). -/
def argPrioChk (s : State) : Bool := s.tc.cmd.arg0.getLsbD 4

/-- CONFIGURE `ARG0[5]` RANGE_EN (30 R92). -/
def argRangeEn (s : State) : Bool := s.tc.cmd.arg0.getLsbD 5

/-- CONFIGURE `ARG1[6:0]` ADDR1 (30 R92). -/
def argAddr1 (s : State) : Addr7 := s.tc.cmd.arg1.extractLsb' 0 7

/-- CONFIGURE `ARG1[14:8]` ADDR2 (30 R92). -/
def argAddr2 (s : State) : Addr7 := s.tc.cmd.arg1.extractLsb' 8 7

/-- SET_STRATEGY `ARG0[1:0]` (30 R92). -/
def argStrategy (s : State) : Option Strategy := strategyOfCode (s.tc.cmd.arg0.extractLsb' 0 2)

/-- The target address `ARG0[6:0]` of BEGIN_WRITE, READ and SEND_READ (30 R92). -/
def argTarget (s : State) : Addr7 := s.tc.cmd.arg0.extractLsb' 0 7

/-- WRITE_BYTE `ARG0[7:0]` (30 R92). -/
def argByte (s : State) : Byte := s.tc.cmd.arg0.extractLsb' 0 8

/-- Byte `j` of WRITE_BYTES, `ARG0[8j+7:8j]` (42 R162). -/
def argByteAt (w : Word) (j : Nat) : Byte := w.extractLsb' (8 * j) 8

/-- The bytes WRITE_BYTES appends, in order: little-endian in ARG0 (20 R75, 42 R162). -/
def argBytes (w : Word) (nbytes : Nat) : List Byte := (List.range nbytes).map (argByteAt w)

/-- RESET_ERRCNT's index `ARG0[7:0]` (30 R92). -/
def argIndex (s : State) : Nat := (s.tc.cmd.arg0.extractLsb' 0 8).toNat

/-- The budget of END_WRITE, READ and AWAIT: `timeout_default` when D is 1, else ARG2 (30 R92). -/
def argBudget (d : Bool) (s : State) : Word :=
  if d then s.tc.cfg.timeoutDefault else s.tc.cmd.arg2

/-- The counter slot `k`; none for `k ≥ 7` (10 R31, 30 R102). -/
def catOfIndex : Nat → Option ErrCat
  | 0 => some .busReset
  | 1 => some .timeout
  | 2 => some .addrNak
  | 3 => some .dataNak
  | 4 => some .arbLost
  | 5 => some .acqFail
  | 6 => some .dmaErr
  | _ => none

end Sys2Proof.Machine
end

