-- ==== Sys2Proof/Machine/Ops.lean ====
section
/-!
DEFINITION. The named operations every rule is written with: buffer cells, port commands, error counters, host
events (raise, claim, return), command completion and rejection, and the ends of a master transfer.
-/

namespace Sys2Proof.Machine

/-- What a meaning answers. -/
abbrev Result := Host.Outcome State Fault Refusal

/-- Continue from a next state; a fault or a refusal stays. -/
def mapNext (f : State → State) : Result → Result
  | .next s => .next (f s)
  | .fault r => .fault r
  | .refused r => .refused r

/-! ### Buffer cells (10 R26, R35) -/

/-- The value of cell `i`, if any rule has written it. -/
def Memory.read : Memory → Nat → Option Byte
  | [], _ => none
  | (a, b) :: m, i => if a = i then some b else Memory.read m i

/-- Write cell `i`, keeping the cells sorted. -/
def Memory.write : Memory → Nat → Byte → Memory
  | [], i, b => [(i, b)]
  | (a, c) :: m, i, b =>
    if i < a then (i, b) :: (a, c) :: m
    else if i = a then (i, b) :: m
    else (a, c) :: Memory.write m i b

/-- The canonical form: indexes strictly rising. -/
def Memory.wf : Memory → Bool
  | [] => true
  | [_] => true
  | (a, _) :: (b, c) :: m => decide (a < b) && Memory.wf ((b, c) :: m)

/-- Read `txbuf[i]` and go on with its value. A cell that holds no value is a fault of the model (10 R35). -/
def readTx (i : Nat) (s : State) (k : Byte → Result) : Result :=
  match s.tc.buf.txbuf.read i with
  | some b => k b
  | none => .fault (.unwrittenCell .tx i)

/-- Read `rxbuf[i]` and go on with its value (10 R35). -/
def readRx (i : Nat) (s : State) (k : Byte → Result) : Result :=
  match s.tc.buf.rxbuf.read i with
  | some b => k b
  | none => .fault (.unwrittenCell .rx i)

/-- `txbuf[txlen] <- b; txlen <- txlen + 1`, done only where `txlen < TX_CAP` (42 R161). -/
def appendTx (b : Byte) (s : State) : State :=
  { s with tc.buf.txbuf := s.tc.buf.txbuf.write s.tc.buf.txlen b, tc.buf.txlen := s.tc.buf.txlen + 1 }

/-- `rxbuf[rxlen] <- d; rxlen <- rxlen + 1` (43 R200). A store outside the buffer is a fault of the model
(10 R26). -/
def storeRx (d : Byte) (s : State) (k : State → Result) : Result :=
  if s.tc.buf.rxlen < s.par.rxCap then
    k { s with tc.buf.rxbuf := s.tc.buf.rxbuf.write s.tc.buf.rxlen d, tc.buf.rxlen := s.tc.buf.rxlen + 1 }
  else .fault (.outsideBuffer .rx s.tc.buf.rxlen)

/-! ### Port commands (30 R105, 44 R220) -/

/-- The effect of a port command on the port's own state. DMA commands act on the DMA agent as 44 R220 says; a
byte given to the link is noted until it completes, and an L_WRITE ends the link's stretch (30 R107). -/
def portEffect (c : PortCmd) (s : State) : State :=
  match c with
  | .write _ =>
    match s.tc.cfg.mode with
    | .master => { s with tc.link.issued := s.tc.link.issued ++ [.write], tc.link.stretched := false }
    | .slave => { s with tc.link.slaveByte := true, tc.link.stretched := false }
  | .recv _ => { s with tc.link.issued := s.tc.link.issued ++ [.recv] }
  | .dmaProgram dir first count =>
    { s with
      tc.dma :=
        { dir := dir, next := first, last := first + count - 1, enabled := false, ready := false,
          pending := false } }
  | .dmaEnable => { s with tc.dma.enabled := true, tc.dma.ready := true }
  | .dmaDisable => { s with tc.dma.enabled := false }
  | .dmaClear => { s with tc.port.dev := none }
  | .start => s
  | .rstart => s
  | .stop => s
  | .rate _ => s
  | .pins _ => s
  | .sclLow => s
  | .sclRelease => s
  | .sdaRelease => s

/-- `emit`: a port command takes effect in the same step (00 R9) and is added to the trace. -/
def emit (c : PortCmd) (s : State) : State :=
  portEffect c { s with tc.link.sent := s.tc.link.sent ++ [c] }

/-! ### Error counters (46 R282 to R285) -/

/-- `errcnt[k]`. -/
def errGet (k : ErrCat) (e : ErrCnt) : Word :=
  match k with
  | .busReset => e.busReset
  | .timeout => e.timeout
  | .addrNak => e.addrNak
  | .dataNak => e.dataNak
  | .arbLost => e.arbLost
  | .acqFail => e.acqFail
  | .dmaErr => e.dmaErr

/-- `errcnt[k] <- v`. -/
def errSet (k : ErrCat) (v : Word) (e : ErrCnt) : ErrCnt :=
  match k with
  | .busReset => { e with busReset := v }
  | .timeout => { e with timeout := v }
  | .addrNak => { e with addrNak := v }
  | .dataNak => { e with dataNak := v }
  | .arbLost => { e with arbLost := v }
  | .acqFail => { e with acqFail := v }
  | .dmaErr => { e with dmaErr := v }

/-- `sat_inc` (00 R9). -/
def satInc (c : Word) : Word := if c = 0xFFFFFFFF then c else c + 1

/-- `errinc(k)` (46 R283). -/
def errinc (k : ErrCat) (s : State) : State :=
  { s with tc.err := errSet k (satInc (errGet k s.tc.err)) s.tc.err }

/-! ### Host events: raise, claim, return (60 R294 to R299) -/

/-- `raise EV_X`: the pending bit is set if the event is enabled (60 R294). -/
def raiseEv (e : HostEv) (s : State) : State :=
  { s with tc.ev.irqPend := s.tc.ev.irqPend ||| (eventMask e &&& s.tc.cfg.irqEn) }

/-- Whether an event is enabled: a handler is registered (46 R272). -/
def evEnabled (e : HostEv) (s : State) : Bool := s.tc.cfg.irqEn &&& eventMask e != 0

/-- The value an IRQ_CLAIM read returns (60 R296). -/
def claimed (s : State) : BitVec 5 := s.tc.ev.irqPend &&& s.tc.cfg.irqEn

/-- The effect of an IRQ_CLAIM read, the host's handler entry: the claimed bits are cleared, and a non-empty
claim adds one level, saturating at 255 (60 R296). -/
def claim (s : State) : State :=
  { s with
    tc.ev.irqPend := s.tc.ev.irqPend &&& ~~~claimed s
    tc.ev.isrDepth :=
      if claimed s = 0 then s.tc.ev.isrDepth
      else if s.tc.ev.isrDepth = 255 then 255 else s.tc.ev.isrDepth + 1 }

/-- The return from a handler context (60 R298). -/
def handlerReturn (s : State) : State :=
  { s with tc.ev.isrDepth := if s.tc.ev.isrDepth = 0 then 0 else s.tc.ev.isrDepth - 1 }

/-! ### Command acceptance and completion (30 R100) -/

/-- A command is rejected: only `cmd_reject` changes (30 R100). -/
def rejectCmd (s : State) : State := { s with tc.cmd.reject := true }

/-- An illegal opcode was written: only `cmd_illegal` changes (30 R101). -/
def illegalCmd (s : State) : State := { s with tc.cmd.illegal := true }

/-- `result <- v`. -/
def setResult (v : Word) (s : State) : State := { s with tc.cmd.result := v }

/-- The acceptance of a gated command: rejected while `cmd_busy = 1` or when its own guard rejects
(30 R100). -/
def gated (guardRejects : Bool) (body : State → State) (s : State) : Result :=
  if s.tc.cmd.busy then .next (rejectCmd s)
  else if guardRejects then .next (rejectCmd s)
  else .next (body s)

/-- A command in progress completes: `result <- v; cmd_busy <- 0; cmd_op <- NONE`. -/
def completeCmd (v : Word) (s : State) : State :=
  { s with tc.cmd.result := v, tc.cmd.busy := false, tc.cmd.op := .none }

/-! ### The ends of a master transfer (42 R171, R172, R175, R177) -/

/-- `DMA_DISABLE; DMA_CLEAR` if a DMA phase is open (42 R175, 43 R199). -/
def dmaShutdown (s : State) : State :=
  if s.tc.xfer.dmaPhase = .off then s else emit .dmaClear (emit .dmaDisable s)

/-- `Finalize()` after the shutdown of the channel: the phase and the flags are reset, and a command waiting for
the transfer completes with ERRCODE (42 R175). -/
def finalizeFlags (s : State) : State :=
  let s1 : State := { s with tc.xfer.dmaPhase := .off, tc.xfer.toFlag := false, tc.xfer.inflightNak := false }
  if s1.tc.cmd.busy && (s1.tc.cmd.op == .xfer || s1.tc.cmd.op == .await) then completeCmd (errCode s1) s1
  else s1

/-- `Finalize()` (42 R175). -/
def finalize (s : State) : State := finalizeFlags (dmaShutdown s)

/-- A transfer ends by arbitration loss: no STOP, the link has released the bus (42 R171, 43 R199 to R201,
44 R225, R227). -/
def endArbLost (s : State) : State :=
  let s1 : State := { s with tc.xfer.status := .arbitrationLost, tc.xfer.masterHeld := false }
  finalize (raiseEv .err (errinc .arbLost s1))

/-- A transfer ends in the fault `st` with a STOP; the counter of its category, if it has one here, was
incremented before (42 R172, R177, 43 R199, R201, 44 R225, R227). -/
def endWithStop (st : Status) (s : State) : State :=
  let s1 := emit .stop { s with tc.xfer.status := st }
  finalize (raiseEv .err { s1 with tc.xfer.masterHeld := false })

/-- A transfer ends in success: status Waiting, STOP if asked for, `done` raised if the transfer ran in the
interrupt class (42 R174, 43 R201). -/
def endSuccess (ev : HostEv) (s : State) : State :=
  let s1 : State := { s with tc.xfer.status := .waiting }
  let s2 : State := if s1.tc.xfer.stopReq then { emit .stop s1 with tc.xfer.masterHeld := false } else s1
  finalize (if isrClass s2 then raiseEv ev s2 else s2)

end Sys2Proof.Machine
end

