-- ==== Sys2Proof/Machine/DmaHandoff.lean ====
section
/-!
DEFINITION. The DMA hand-off sequencer (44_dma_handoff.md): setup, entry into Bulk, the rules of the Bulk phase,
and the steps of the DMA agent.
-/

namespace Sys2Proof.Machine

/-- `DmaTxSetup()` (44 R222). -/
def dmaTxSetup (s : State) : State :=
  { emit (.dmaProgram .tx 2 (s.tc.buf.txlen - 3)) s with tc.xfer.dmaPhase := .addr }

/-- `DmaRxSetup()` (44 R223). -/
def dmaRxSetup (s : State) : State :=
  { emit (.dmaProgram .rx 0 (s.tc.buf.rxreq.toNat - 1)) s with tc.xfer.dmaPhase := .addr }

/-- `DmaTxEnterBulk()` (44 R224). -/
def dmaTxEnterBulk (s : State) : State := emit .dmaEnable { s with tc.xfer.dmaPhase := .bulk }

/-- `DmaRxEnterBulk()` (44 R224). -/
def dmaRxEnterBulk (s : State) : State :=
  emit .dmaEnable { s with tc.xfer.status := .receiving, tc.xfer.dmaPhase := .bulk }

/-- The error completion a link event carries during Bulk: `some arbl` for a TC or RC with `arbl = 1`, or a TC
with `rxak = 1` (44 R225). -/
def bulkErrorOf : LinkEv → Option Bool
  | .tc arbl rxak => if arbl || rxak then some arbl else none
  | .rc arbl _ => if arbl then some true else none
  | .addr _ _ => none
  | .srx _ => none
  | .stx _ => none
  | .stopf => none

/-- The link event in `lev` is an error completion (44 R225). -/
def pendingBulkError (s : State) : Option Bool := s.tc.port.lev.bind bulkErrorOf

/-- Error completion during Bulk: when it is enabled (44 R225). -/
def canBulkError (s : State) : Bool :=
  grant s && s.tc.xfer.dmaPhase == .bulk && masterActive s && (pendingBulkError s).isSome

/-- Error completion during Bulk (44 R225). -/
def fireBulkError (s : State) : Result :=
  let s1 : State := { s with tc.port.lev := none }
  if pendingBulkError s = some true then .next (endArbLost s1)
  else if s.tc.xfer.toFlag then .next (endWithStop .timeout s1)
  else .next (endWithStop .dataNak (errinc .dataNak s1))

/-- DMA_DONE: when it is enabled (44 R226). -/
def canDmaDone (s : State) : Bool :=
  grant s && s.tc.xfer.dmaPhase == .bulk && s.tc.port.dev == some .done

/-- DMA_DONE (44 R226). -/
def fireDmaDone (s : State) : Result :=
  let s1 := emit .dmaDisable { s with tc.port.dev := none }
  let s2 : State := { s1 with tc.xfer.dmaPhase := .last }
  match s.tc.cmd.kind with
  | .tx => .next { s2 with tc.buf.txidx := s2.tc.buf.txlen - 2 }
  | .rx => .next (emit (.recv true) { s2 with tc.xfer.inflightNak := true })

/-- DMA_ERR: when it is enabled (44 R227). -/
def canDmaError (s : State) : Bool :=
  grant s && s.tc.xfer.dmaPhase != .off && s.tc.port.dev == some .err

/-- DMA_ERR: arbitration is checked first (44 R227). -/
def fireDmaError (s : State) : Result :=
  let s1 : State := { s with tc.port.dev := none }
  if s.tc.port.linkArbl then .next (endArbLost s1)
  else .next (endWithStop .dmaError (errinc .dmaErr s1))

/-- A stale DMA event: when it is enabled (44 R228). -/
def canDmaStale (s : State) : Bool :=
  grant s &&
    ((s.tc.port.dev.isSome && s.tc.xfer.dmaPhase == .off) ||
      (s.tc.port.dev == some .done && (s.tc.xfer.dmaPhase == .addr || s.tc.xfer.dmaPhase == .last)))

/-- A stale DMA event is consumed with no other effect (44 R228). -/
def fireDmaStale (s : State) : Result := .next { s with tc.port.dev := none }

/-! ### The DMA agent (44 R221) -/

/-- Item 1 is enabled. -/
def canTxElement (s : State) : Bool :=
  s.tc.dma.enabled && s.tc.dma.dir == .tx && s.tc.dma.ready && decide (s.tc.dma.next ≤ s.tc.dma.last)

/-- Item 2 is enabled. -/
def canRxIssue (s : State) : Bool :=
  s.tc.dma.enabled && s.tc.dma.dir == .rx && s.tc.dma.ready && !s.tc.dma.pending &&
    decide (s.tc.dma.next ≤ s.tc.dma.last)

/-- Items 1, 2 and 4 as steps. An event is placed only while `dev` is empty (item 5). -/
def dmaAgent (d : DmaStep) (s : State) : Result :=
  match d with
  | .txElement =>
    if !canTxElement s then .refused (.outsideContract .noDmaStep)
    else if s.tc.dma.next = s.tc.dma.last && s.tc.port.dev.isSome then .refused (.outsideContract .devFull)
    else readTx s.tc.dma.next s fun b =>
      let s1 := emit (.write b) s
      let s2 : State := { s1 with tc.dma.next := s1.tc.dma.next + 1, tc.dma.ready := false }
      .next (if s2.tc.dma.last < s2.tc.dma.next then { s2 with tc.port.dev := some .done } else s2)
  | .rxIssue =>
    if !canRxIssue s then .refused (.outsideContract .noDmaStep)
    else
      let s1 := emit (.recv false) s
      .next { s1 with tc.dma.ready := false, tc.dma.pending := true }
  | .error =>
    if !(canTxElement s || canRxIssue s) then .refused (.outsideContract .noDmaStep)
    else if s.tc.port.dev.isSome then .refused (.outsideContract .devFull)
    else .next { s with tc.port.dev := some .err, tc.dma.enabled := false }

/-- A clean TC is routed to the DMA agent (44 R221, item 3). -/
def routesTc (s : State) : Bool :=
  s.tc.dma.enabled && s.tc.dma.dir == .tx && decide (s.tc.dma.next ≤ s.tc.dma.last)

/-- A clean RC is routed to the DMA agent (44 R221, item 3). -/
def routesRc (s : State) : Bool := s.tc.dma.enabled && s.tc.dma.dir == .rx && s.tc.dma.pending

/-- The DMA agent takes a received byte: it is stored, and the next element is made ready or DMA_DONE is
placed (44 R221, item 3). A store outside the buffer is a fault of the model (10 R26). -/
def dmaTakeByte (d : Byte) (s : State) : Result :=
  if s.par.rxCap ≤ s.tc.dma.next then .fault (.outsideBuffer .rx s.tc.dma.next)
  else if s.par.rxCap ≤ s.tc.buf.rxlen then .fault (.outsideBuffer .rx s.tc.buf.rxlen)
  else
    let s1 : State :=
      { s with
        tc.buf.rxbuf := s.tc.buf.rxbuf.write s.tc.dma.next d
        tc.buf.rxlen := s.tc.buf.rxlen + 1
        tc.dma.next := s.tc.dma.next + 1
        tc.dma.pending := false }
    if s1.tc.dma.last < s1.tc.dma.next then
      if s1.tc.port.dev.isSome then .refused (.outsideContract .devFull)
      else .next { s1 with tc.port.dev := some .done }
    else .next { s1 with tc.dma.ready := true }

end Sys2Proof.Machine
end

