-- ==== Sys2Proof/Machine/Transfer.lean ====
section
/-!
DEFINITION. What the four transfer-start commands share: the common guard, priority escalation, the effective
strategy, and StartTransfer (41_acquisition_recovery.md R140 to R144).
-/

namespace Sys2Proof.Machine

/-- The common guard rejects: slave mode, or a master transfer is active (41 R140). -/
def startRejects (s : State) : Bool := s.tc.cfg.mode == .slave || masterActive s

/-- The caller's priority is at or above the interrupt's, and the check applies (41 R141, R142). -/
def mustEscalate (st : Strategy) (s : State) : Bool :=
  st != .immediate && s.tc.cfg.prioChk && s.tc.ev.isrDepth == 0 && decide (s.tc.cfg.irqPrio ≤ s.hostPrio)

/-- `Escalate(s)`: the strategy and the new `irq_prio` (41 R142). -/
def escalate (st : Strategy) (s : State) : Strategy × Nat :=
  if mustEscalate st s then
    if s.hostPrio < s.par.prioMax then (st, s.hostPrio + 1) else (.immediate, s.tc.cfg.irqPrio)
  else (st, s.tc.cfg.irqPrio)

/-- `DmaMin(k)`: the least length for which DMA is engaged (41 R143). -/
def dmaMin (k : Kind) (s : State) : Nat :=
  match k with
  | .tx => max s.tc.cfg.dmaThresh.toNat 4
  | .rx => max s.tc.cfg.dmaThresh.toNat 2

/-- `ResolveEff(k, len)`: the effective strategy and the new `irq_prio` (41 R143). -/
def resolveEff (k : Kind) (len : Nat) (s : State) : Strategy × Nat :=
  let e := escalate s.tc.cfg.strategy s
  if e.1 = .dma ∧ len < dmaMin k s then (.interrupt, e.2) else e

/-- `StartTransfer(k, len, blocking, budget)` (41 R144). An async command on the Immediate path runs as its
blocking form with the default budget. -/
def startTransfer (k : Kind) (len : Nat) (blocking : Bool) (budget : Word) (s : State) : State :=
  let e := resolveEff k len s
  let b : Bool := blocking || e.1 == .immediate
  { s with
    tc.cfg.irqPrio := e.2
    tc.xfer :=
      { s.tc.xfer with eff := e.1, toApplied := false, toFlag := false, inflightNak := false }
    tc.cmd :=
      { s.tc.cmd with
        busy := true, op := .acq, kind := k, blocking := b, t0 := s.nowUs,
        budget := if blocking then budget else s.tc.cfg.timeoutDefault,
        acqRetried := false } }

end Sys2Proof.Machine
end

