-- ==== Sys2Proof/Machine/MasterTx.lean ====
section
/-!
DEFINITION. Master transmit (42_master_tx.md): the buffer-filling commands, END_WRITE and SEND_WRITE, the launch
and the byte completions.
-/

namespace Sys2Proof.Machine

/-- BEGIN_WRITE once accepted (42 R160). -/
def beginWriteApply (s : State) : State :=
  setResult 1
    { s with
      tc.buf.txbuf := s.tc.buf.txbuf.write 0 (addressByte (argTarget s) false)
      tc.buf.txlen := 1
      tc.buf.txidx := 0
      tc.xfer.ovf := false }

/-- BEGIN_WRITE (42 R160). -/
def execBeginWrite (s : State) : Result :=
  gated (s.tc.cfg.mode == .slave || masterActive s) beginWriteApply s

/-- A WRITE command before any BEGIN_WRITE in master mode is refused (42 R161, R162, 92 D45). -/
def writeRefused (s : State) : Bool := s.tc.cfg.mode == .master && s.tc.buf.txlen == 0

/-- Append one byte if the buffer has room, else drop it and record the overflow; the count of bytes accepted
so far is carried along (42 R161, R162, R163). -/
def appendOrDrop (b : Byte) (c : Nat) (s : State) : Nat × State :=
  if s.tc.buf.txlen < s.par.txCap then (c + 1, appendTx b s) else (c, { s with tc.xfer.ovf := true })

/-- Append the bytes in order (42 R162). -/
def appendAll : List Byte → Nat → State → Nat × State
  | [], c, s => (c, s)
  | b :: bs, c, s =>
    let r := appendOrDrop b c s
    appendAll bs r.1 r.2

/-- WRITE_BYTE (42 R161). -/
def execWriteByte (s : State) : Result :=
  gated (masterActive s)
    (fun s =>
      if writeRefused s then setResult 0 s
      else
        let r := appendOrDrop (argByte s) 0 s
        setResult (BitVec.ofNat 32 r.1) r.2) s

/-- WRITE_BYTES (42 R162). -/
def execWriteBytes (nbytes : Nat) (s : State) : Result :=
  gated (masterActive s)
    (fun s =>
      if writeRefused s then setResult 0 s
      else
        let r := appendAll (argBytes s.tc.cmd.arg0 nbytes) 0 s
        setResult (BitVec.ofNat 32 r.1) r.2) s

/-- A transmit start once past the common guard: a zero-length transmit is a no-op (42 R164). -/
def startTx (stop blocking : Bool) (budget : Word) (s : State) : State :=
  if s.tc.buf.txlen = 0 then setResult 0 s
  else startTransfer .tx s.tc.buf.txlen blocking budget { s with tc.xfer.stopReq := stop }

/-- END_WRITE (42 R165). -/
def execEndWrite (stop d : Bool) (s : State) : Result :=
  gated (startRejects s) (fun s => startTx stop true (argBudget d s) s) s

/-- SEND_WRITE (42 R166). -/
def execSendWrite (stop : Bool) (s : State) : Result :=
  gated (startRejects s) (fun s => startTx stop false s.tc.cfg.timeoutDefault s) s

/-! ### Launch and byte completion -/

/-- `TxLaunch()` (42 R167). -/
def txLaunch (s : State) : Result :=
  let s1 : State := { s with tc.xfer.status := .sending, tc.buf.txidx := 0 }
  let s2 := if s1.tc.xfer.eff = .dma then dmaTxSetup s1 else s1
  readTx 0 s2 fun b => .next (emit (.write b) s2)

/-- `TxNak()`: byte 0 is the address (42 R172). -/
def txNak (s : State) : State :=
  if s.tc.buf.txidx = 0 then endWithStop .addrNak (errinc .addrNak s)
  else endWithStop .dataNak (errinc .dataNak s)

/-- `TxNext()` (42 R173). -/
def txNext (s : State) : Result :=
  if s.tc.xfer.dmaPhase = .addr ∧ s.tc.buf.txidx = 1 then .next (dmaTxEnterBulk s)
  else
    let s1 : State := { s with tc.buf.txidx := s.tc.buf.txidx + 1 }
    readTx s1.tc.buf.txidx s1 fun b => .next (emit (.write b) s1)

/-- `TxLast()` (42 R174). -/
def txLast (s : State) : State := endSuccess .mtxDone s

/-- `TxTimeoutEnd()` (42 R177). -/
def txTimeoutEnd (s : State) : State := endWithStop .timeout s

/-- The checks of the transmit completion step, in order (42 R170). -/
def txCompletion (arbl rxak : Bool) (s : State) : Result :=
  if arbl then .next (endArbLost s)
  else if s.tc.xfer.toFlag then .next (txTimeoutEnd s)
  else if rxak then .next (txNak s)
  else if s.tc.buf.txidx + 1 < s.tc.buf.txlen then txNext s
  else .next (txLast s)

/-- The TC event in `lev`: its `arbl` and `rxak`. -/
def pendingTc (s : State) : Option (Bool × Bool) :=
  match s.tc.port.lev with
  | some (.tc arbl rxak) => some (arbl, rxak)
  | _ => none

/-- Transmit completion step: when it is enabled (42 R169). -/
def canTxDone (s : State) : Bool :=
  s.tc.xfer.status == .sending && (pendingTc s).isSome && s.tc.xfer.dmaPhase != .bulk && transferClass s

/-- Transmit completion step (42 R170). -/
def fireTxDone (s : State) : Result :=
  match pendingTc s with
  | some e => txCompletion e.1 e.2 { s with tc.port.lev := none }
  | none => .refused (.notEnabled .txDone)

end Sys2Proof.Machine
end

