-- ==== Sys2Proof/Machine/MasterRx.lean ====
section
/-!
DEFINITION. Master receive, AWAIT and the timeout (43_master_rx.md).
-/

namespace Sys2Proof.Machine

/-- A receive start once past the common guard: `RxAccept` and then StartTransfer (43 R190 to R192). A zero
count and an over-capacity count are refused without touching the bus. -/
def startRx (stop blocking : Bool) (budget : Word) (s : State) : State :=
  let n := s.tc.cmd.arg1
  if n = 0 then setResult 0 s
  else if s.par.rxCap < n.toNat then
    let s1 : State := { s with tc.xfer.status := .bufferOverflow }
    setResult (errCode s1) s1
  else
    startTransfer .rx n.toNat blocking budget
      { s with
        tc.xfer.ovf := false
        tc.xfer.rxTarget := argTarget s
        tc.xfer.stopReq := stop
        tc.buf.rxreq := n
        tc.buf.rxlen := 0
        tc.buf.rxidx := 0 }

/-- READ (43 R190). -/
def execRead (stop d : Bool) (s : State) : Result :=
  gated (startRejects s) (fun s => startRx stop true (argBudget d s) s) s

/-- SEND_READ (43 R191). -/
def execSendRead (stop : Bool) (s : State) : Result :=
  gated (startRejects s) (fun s => startRx stop false s.tc.cfg.timeoutDefault s) s

/-- AWAIT (43 R195). -/
def execAwait (d : Bool) (s : State) : Result :=
  gated false
    (fun s =>
      if !masterActive s then setResult (errCode s) s
      else
        { s with
          tc.cmd :=
            { s.tc.cmd with busy := true, op := .await, t0 := s.nowUs, budget := argBudget d s }
          tc.xfer.toApplied := false }) s

/-! ### The timeout (43 R196) -/

/-- The timeout application: when it is enabled (43 R196). -/
def canTimeout (s : State) : Bool :=
  s.tc.cmd.busy && (s.tc.cmd.op == .xfer || s.tc.cmd.op == .await) && masterActive s && expired s &&
    !s.tc.xfer.toApplied

/-- The timeout application only arms the flag and counts (43 R196). -/
def fireTimeout (s : State) : Result :=
  .next (errinc .timeout { s with tc.xfer.toApplied := true, tc.xfer.toFlag := true })

/-! ### Launch and receive events -/

/-- `RxLaunch()` (43 R193). -/
def rxLaunch (s : State) : Result :=
  let s1 : State := { s with tc.xfer.status := .sendAddr }
  let s2 := if s1.tc.xfer.eff = .dma then dmaRxSetup s1 else s1
  .next (emit (.write (addressByte s2.tc.xfer.rxTarget true)) s2)

/-- The next receive is issued with the NAK setting `nak`. -/
def issueRecv (nak : Bool) (s : State) : State :=
  emit (.recv nak) { s with tc.xfer.inflightNak := nak }

/-- The address byte was ACK'd (43 R199). -/
def addrAcked (s : State) : State :=
  if s.tc.xfer.toFlag then
    issueRecv true { dmaShutdown s with tc.xfer.dmaPhase := .off, tc.xfer.status := .receiving }
  else if s.tc.xfer.dmaPhase = .addr then dmaRxEnterBulk s
  else issueRecv (s.tc.buf.rxreq == 1) { s with tc.xfer.status := .receiving }

/-- The address byte was NAK'd (43 R199). -/
def addrNaked (s : State) : State :=
  if s.tc.xfer.toFlag then endWithStop .timeout s
  else endWithStop .addrNak (errinc .addrNak s)

/-- Address-phase completion: when it is enabled (43 R199). -/
def canAddrDone (s : State) : Bool :=
  s.tc.xfer.status == .sendAddr && (pendingTc s).isSome && transferClass s

/-- Address-phase completion (43 R199). -/
def fireAddrDone (s : State) : Result :=
  match pendingTc s with
  | some e =>
    let s1 : State := { s with tc.port.lev := none }
    if e.1 then .next (endArbLost s1)
    else if e.2 then .next (addrNaked s1)
    else .next (addrAcked s1)
  | none => .refused (.notEnabled .addrDone)

/-- The RC event in `lev`: its `arbl` and its data. -/
def pendingRc (s : State) : Option (Bool × Byte) :=
  match s.tc.port.lev with
  | some (.rc arbl d) => some (arbl, d)
  | _ => none

/-- Non-final byte: when it is enabled (43 R200). -/
def canRxByte (s : State) : Bool :=
  s.tc.xfer.status == .receiving && (pendingRc s).isSome && !s.tc.xfer.inflightNak &&
    s.tc.xfer.dmaPhase == .off && transferClass s

/-- Non-final byte: stored, and NAK is pre-armed for the last one (43 R200). -/
def fireRxByte (s : State) : Result :=
  match pendingRc s with
  | some e =>
    let s1 : State := { s with tc.port.lev := none }
    if e.1 then .next (endArbLost s1)
    else storeRx e.2 s1 fun s2 =>
      .next (issueRecv (s2.tc.buf.rxlen + 1 == s2.tc.buf.rxreq.toNat || s2.tc.xfer.toFlag) s2)
  | none => .refused (.notEnabled .rxByte)

/-- Final byte: when it is enabled (43 R201). -/
def canRxFinal (s : State) : Bool :=
  s.tc.xfer.status == .receiving && (pendingRc s).isSome && s.tc.xfer.inflightNak &&
    (s.tc.xfer.dmaPhase == .off || s.tc.xfer.dmaPhase == .last) && transferClass s

/-- Final byte: stored, and the transfer ends as Timeout or in success (43 R201). -/
def fireRxFinal (s : State) : Result :=
  match pendingRc s with
  | some e =>
    let s1 : State := { s with tc.port.lev := none }
    if e.1 then .next (endArbLost s1)
    else storeRx e.2 s1 fun s2 =>
      if s2.tc.xfer.toFlag then .next (endWithStop .timeout s2) else .next (endSuccess .mrxDone s2)
  | none => .refused (.notEnabled .rxFinal)

end Sys2Proof.Machine
end

