-- ==== Sys2Proof/Machine/Acquire.lean ====
section
/-!
DEFINITION. Acquisition and recovery (41_acquisition_recovery.md R145 to R152) and RESET_BUS (R149).
-/

namespace Sys2Proof.Machine

/-! ### Recovery -/

/-- `StartRecovery()` (41 R150). -/
def startRecovery (s : State) : State :=
  let s1 := emit (.pins true) s
  let s2 : State := { s1 with tc.rcv.pinsGpio := true }
  let s3 := emit .sclRelease (emit .sdaRelease s2)
  { s3 with tc.rcv.k := 0, tc.rcv.step := .sample }

/-- The state `EndRecovery()` leaves before the command goes on (41 R152). -/
def recoveryCleanup (s : State) : State :=
  let s1 : State := { s with tc.rcv.stuck := !s.tc.port.sda, tc.rcv.resultK := s.tc.rcv.k }
  let s2 := emit (.pins false) s1
  errinc .busReset
    { s2 with
      tc.rcv.pinsGpio := false
      tc.rcv.step := .idle
      tc.xfer.status := .waiting
      tc.xfer.masterHeld := false
      tc.xfer.dmaPhase := .off
      tc.xfer.toFlag := false }

/-- `EndRecovery()`: back to the acquisition after an auto-retry, else RESET_BUS completes (41 R152). -/
def endRecovery (s : State) : State :=
  let s1 := recoveryCleanup s
  if s1.tc.rcv.internal then
    { s1 with tc.rcv.internal := false, tc.cmd.op := .acq, tc.cmd.t0 := s1.nowUs }
  else completeCmd (recoveryWord s1.tc.rcv.stuck s1.tc.rcv.k) s1

/-- RESET_BUS (41 R149). -/
def execResetBus (s : State) : Result :=
  gated (masterActive s || s.tc.slave.hold != .none)
    (fun s =>
      startRecovery { s with tc.cmd.busy := true, tc.cmd.op := .recover, tc.rcv.internal := false }) s

/-- The wait for SCL is over: it reads high, or the bound has passed (41 R151). -/
def sclWaitOver (s : State) : Bool :=
  s.tc.port.scl ||
    match s.par.sclWait with
    | .unbounded => false
    | .bounded extra => decide (extra + 1 ≤ (s.nowUs - s.tc.rcv.t).toNat)

/-- A recovery step: when it is enabled (41 R151). -/
def canRecover (s : State) : Bool :=
  s.tc.cmd.busy && s.tc.cmd.op == .recover &&
    match s.tc.rcv.step with
    | .idle => false
    | .sample => true
    | .low => true
    | .high => sclWaitOver s

/-- A recovery step (41 R151). -/
def fireRecover (s : State) : Result :=
  match s.tc.rcv.step with
  | .sample =>
    if s.tc.port.sda || s.tc.rcv.k == recoveryToggles then .next (endRecovery s)
    else .next { emit .sclLow s with tc.rcv.step := .low }
  | .low =>
    let s1 := emit .sclRelease s
    .next { s1 with tc.rcv.t := s1.nowUs, tc.rcv.step := .high }
  | .high => .next { s with tc.rcv.k := s.tc.rcv.k + 1, tc.rcv.step := .sample }
  | .idle => .refused (.notEnabled .recover)

/-! ### Acquisition -/

/-- `AcqGiveUp()` (41 R147). RESULT is 4 (46 R273, 42 R165, R166, 43 R191), also where `ovf` makes ERRCODE read 1
(log 18). -/
def acqGiveUp (s : State) : State :=
  completeCmd 4 (raiseEv .err (errinc .acqFail { s with tc.xfer.status := .busNotAcquired }))

/-- `AcqFail()`: one recovery and one more try if auto-retry is on, else give up (41 R146). -/
def acqFail (s : State) : State :=
  if s.tc.cfg.autoRetry && !s.tc.cmd.acqRetried then
    startRecovery { s with tc.cmd.acqRetried := true, tc.rcv.internal := true, tc.cmd.op := .recover }
  else acqGiveUp s

/-- The command after the launch: a blocking one waits for the transfer, an async one returns at once
(41 R145). -/
def afterLaunch (s : State) : State :=
  if s.tc.cmd.blocking then { s with tc.cmd.op := .xfer } else completeCmd (errCode s) s

/-- `Launch()` (41 R145). -/
def launch (s : State) : Result :=
  mapNext afterLaunch
    (match s.tc.cmd.kind with
     | .tx => txLaunch s
     | .rx => rxLaunch s)

/-- Acquisition poll: when it is enabled (41 R145). -/
def canAcquire (s : State) : Bool :=
  s.tc.cmd.busy && s.tc.cmd.op == .acq && s.tc.rcv.step == .idle &&
    (s.tc.xfer.masterHeld || !s.tc.port.linkBusy || expired s)

/-- Acquisition poll: repeated START, START, or the failure (41 R145). -/
def fireAcquire (s : State) : Result :=
  if s.tc.xfer.masterHeld then launch (emit .rstart s)
  else if !s.tc.port.linkBusy then launch { emit .start s with tc.xfer.masterHeld := true }
  else .next (acqFail s)

end Sys2Proof.Machine
end

