-- ==== Sys2Proof/Machine/Configuration.lean ====
section
/-!
DEFINITION. The configuration commands CONFIGURE, SET_STRATEGY and SET_RATE (40_config.md).
-/

namespace Sys2Proof.Machine

/-- `ResolveStrategy(s)`: the strategy selected and the new `dma_alloc` (40 R121). -/
def resolveStrategy (st : Strategy) (s : State) : Strategy × Bool :=
  if st = .dma then
    if s.tc.cfg.dmaAlloc || s.tc.port.dmaAvailable then (.dma, true) else (.interrupt, s.tc.cfg.dmaAlloc)
  else (st, s.tc.cfg.dmaAlloc)

/-- The configuration fields CONFIGURE writes from its operands, the resolved strategy being `r`
(40 R120). -/
def configureFields (r : Strategy × Bool) (s : State) : CfgRegs :=
  { s.tc.cfg with
    mode := argMode s
    strategy := r.1
    autoRetry := argAutoRetry s
    prioChk := argPrioChk s
    rangeEn := argRangeEn s
    addr1 := argAddr1 s
    addr2 := argAddr2 s
    rate := s.tc.cmd.arg2
    dmaAlloc := r.2 }

/-- The "begin" of CONFIGURE: the transfer context, the holds and the watch are reset (40 R120, 70 R321). -/
def beginContext (eff : Strategy) (s : State) : State :=
  { s with
    tc.xfer :=
      { s.tc.xfer with
        status := .waiting, eff := eff, stopReq := false, masterHeld := false, dmaPhase := .off,
        toFlag := false, toApplied := false, inflightNak := false, ovf := false }
    tc.buf := { s.tc.buf with txlen := 0, txidx := 0, rxlen := 0, rxidx := 0, rxreq := 0 }
    tc.slave :=
      { s.tc.slave with hold := .none, boundaryDone := false, watchArmed := false, spuriousCnt := 0 } }

/-- CONFIGURE once accepted with a legal strategy `st` on a free bus (40 R120). -/
def configureApply (st : Strategy) (s : State) : State :=
  let r := resolveStrategy st s
  let s1 := emit (.rate s.tc.cmd.arg2) { s with tc.cfg := configureFields r s }
  setResult 1 (beginContext r.1 s1)

/-- CONFIGURE (40 R120). -/
def execConfigure (s : State) : Result :=
  gated (masterActive s)
    (fun s =>
      if s.tc.port.linkBusy then setResult 0 s
      else match argConfigStrategy s with
        | none => setResult 0 s
        | some st => configureApply st s) s

/-- SET_STRATEGY (40 R122). -/
def execSetStrategy (s : State) : Result :=
  gated false
    (fun s =>
      if s.tc.port.linkBusy then setResult 0 s
      else match argStrategy s with
        | none => setResult 0 s
        | some st =>
          let r := resolveStrategy st s
          setResult 1 { s with tc.cfg.strategy := r.1, tc.cfg.dmaAlloc := r.2 }) s

/-- SET_RATE (40 R124). -/
def execSetRate (s : State) : Result :=
  gated false
    (fun s =>
      if s.tc.port.linkBusy then setResult 0 s
      else setResult 1 (emit (.rate s.tc.cmd.arg0) { s with tc.cfg.rate := s.tc.cmd.arg0 })) s

end Sys2Proof.Machine
end

