-- ==== Sys2Proof/Machine/HostEvents.lean ====
section
/-!
DEFINITION. EOI, the host's handler exit (60_exceptions.md R298).
-/

namespace Sys2Proof.Machine

/-- EOI (60 R298). -/
def execEoi (s : State) : Result := .next (handlerReturn s)

end Sys2Proof.Machine
end

