-- ==== Sys2Proof/Machine/SlaveDispatch.lean ====
section
/-!
DEFINITION. The slave address-match dispatcher (45_slave.md).
-/

namespace Sys2Proof.Machine

/-- `raise EV_SRX_DONE`, with the hold SRX if it is enabled (45 R243). -/
def raiseSrxDone (s : State) : State :=
  let s1 := raiseEv .srxDone s
  if evEnabled .srxDone s1 then { s1 with tc.slave.hold := .srx } else s1

/-- No slave rule is enabled while a hold is in force, or without the grant (45 R243, 60 R297). -/
def slaveClass (s : State) : Bool := grant s && s.tc.slave.hold == .none

/-- The ADDR event in `lev`: the address and the read/write bit. -/
def pendingAddr (s : State) : Option (Addr7 × Bool) :=
  match s.tc.port.lev with
  | some (.addr a rw) => some (a, rw)
  | _ => none

/-- Step A of an address match: when it is enabled (45 R244). -/
def canBoundary (s : State) : Bool :=
  slaveClass s && (pendingAddr s).isSome && s.tc.xfer.status == .slaveRx && !s.tc.slave.boundaryDone

/-- Step A, the implicit boundary: the finished phase is reported; `lev` is not consumed (45 R244). -/
def fireBoundary (s : State) : Result :=
  .next (raiseSrxDone
    { s with
      tc.slave.srxCount := BitVec.ofNat 32 s.tc.buf.rxlen
      tc.slave.boundaryDone := true
      tc.slave.watchArmed := false
      tc.port.sdaRise := false })

/-- `SlaveRxSetup()` (45 R246). -/
def slaveRxSetup (s : State) : State :=
  let s1 : State := { s with tc.xfer.status := .slaveRx, tc.buf.rxlen := 0, tc.buf.rxidx := 0 }
  if s1.par.hasStopf then s1
  else { s1 with tc.slave.watchArmed := true, tc.slave.spuriousCnt := 0, tc.port.sdaRise := false }

/-- `SlaveTxSetup()` (45 R247). -/
def slaveTxSetup (s : State) : State :=
  let s1 :=
    raiseEv .sreq
      { s with tc.xfer.status := .slaveTx, tc.buf.txlen := 0, tc.buf.txidx := 0, tc.xfer.ovf := false }
  if evEnabled .sreq s1 then { s1 with tc.slave.hold := .sreq } else emit (.write 0) s1

/-- The slave phase an address match opens: transmission or reception, in either mode (45 R245; log 15). -/
def slaveSetup (rw : Bool) (s : State) : State := if rw then slaveTxSetup s else slaveRxSetup s

/-- Step B of an address match: when it is enabled (45 R245). -/
def canDispatch (s : State) : Bool :=
  slaveClass s && (pendingAddr s).isSome && (s.tc.xfer.status != .slaveRx || s.tc.slave.boundaryDone)

/-- Step B: the address is captured and the phase set up (45 R242, R245). -/
def fireDispatch (s : State) : Result :=
  match pendingAddr s with
  | some e =>
    let s1 : State :=
      { s with tc.port.lev := none, tc.slave.boundaryDone := false, tc.slave.rxaddr := e.1 }
    .next (slaveSetup e.2 s1)
  | none => .refused (.notEnabled .dispatch)

/-- The SRX event in `lev`: its data. -/
def pendingSrx (s : State) : Option Byte :=
  match s.tc.port.lev with
  | some (.srx d) => some d
  | _ => none

/-- Slave receive byte: when it is enabled (45 R248). -/
def canSlaveRx (s : State) : Bool :=
  slaveClass s && (pendingSrx s).isSome && s.tc.xfer.status == .slaveRx

/-- Slave receive byte: stored, or dropped beyond capacity (45 R248). -/
def fireSlaveRx (s : State) : Result :=
  match pendingSrx s with
  | some d =>
    let s1 : State := { s with tc.port.lev := none }
    if s1.tc.buf.rxlen < s1.par.rxCap then storeRx d s1 fun s2 => .next s2 else .next s1
  | none => .refused (.notEnabled .slaveRx)

/-- The STX event in `lev`: its ACK bit. -/
def pendingStx (s : State) : Option Bool :=
  match s.tc.port.lev with
  | some (.stx ack) => some ack
  | _ => none

/-- Give the link `txbuf[i]`, or 0x00 past the end (45 R249, R250). -/
def sendOrZero (i : Nat) (s : State) : Result :=
  if i < s.tc.buf.txlen then readTx i s fun b => .next (emit (.write b) s) else .next (emit (.write 0) s)

/-- Slave transmit byte completed: when it is enabled (45 R249). -/
def canSlaveTx (s : State) : Bool :=
  slaveClass s && (pendingStx s).isSome && s.tc.xfer.status == .slaveTx

/-- Slave transmit byte completed (45 R249). -/
def fireSlaveTx (s : State) : Result :=
  match pendingStx s with
  | some ack =>
    let s1 : State := { s with tc.port.lev := none }
    if ack then
      let s2 : State := { s1 with tc.buf.txidx := min (s1.tc.buf.txidx + 1) s1.tc.buf.txlen }
      sendOrZero s2.tc.buf.txidx s2
    else .next { s1 with tc.xfer.status := .waiting }
  | none => .refused (.notEnabled .slaveTx)

/-- SLAVE_RELEASE (45 R250). -/
def execSlaveRelease (s : State) : Result :=
  match s.tc.slave.hold with
  | .sreq => sendOrZero 0 { s with tc.slave.hold := .none, tc.buf.txidx := 0 }
  | .srx => .next { s with tc.slave.hold := .none }
  | .none => .next s

/-- `SlaveRxEnd()` (45 R251). -/
def slaveRxEnd (s : State) : State :=
  raiseSrxDone
    { s with
      tc.slave.srxCount := BitVec.ofNat 32 s.tc.buf.rxlen
      tc.xfer.status := .waiting
      tc.slave.watchArmed := false
      tc.port.sdaRise := false }

/-- Hardware stop detect: when it is enabled (45 R251). -/
def canStopDetect (s : State) : Bool := slaveClass s && s.tc.port.lev == some .stopf

/-- Hardware stop detect (45 R251). -/
def fireStopDetect (s : State) : Result :=
  let s1 : State := { s with tc.port.lev := none }
  if s1.tc.xfer.status = .slaveRx then .next (slaveRxEnd s1)
  else if s1.tc.xfer.status = .slaveTx then .next { s1 with tc.xfer.status := .waiting }
  else .next s1

/-- Emulated stop detect: when it is enabled (45 R252; log 14 for the hold). -/
def canSdaEdge (s : State) : Bool := slaveClass s && s.tc.port.sdaRise

/-- Emulated stop detect (45 R252). -/
def fireSdaEdge (s : State) : Result :=
  let s1 : State := { s with tc.port.sdaRise := false }
  if !s1.tc.slave.watchArmed then .next s1
  else if !s1.tc.port.linkBusy then .next (slaveRxEnd s1)
  else
    let s2 : State := { s1 with tc.slave.spuriousCnt := s1.tc.slave.spuriousCnt + 1 }
    if s2.par.edgeLimit ≤ s2.tc.slave.spuriousCnt.toNat then .next { s2 with tc.slave.watchArmed := false }
    else .next s2

/-- The event in `lev` is one 45 R253 discards in this state. -/
def isUnexpected (s : State) : Bool :=
  match s.tc.port.lev with
  | some (.srx _) => s.tc.xfer.status != .slaveRx
  | some (.stx _) => s.tc.xfer.status != .slaveTx
  | some (.tc _ _) => !masterActive s
  | some (.rc _ _) => !masterActive s
  | some (.addr _ _) => false
  | some .stopf => false
  | none => false

/-- Unexpected event: when the discard is enabled (45 R253). -/
def canUnexpected (s : State) : Bool := slaveClass s && isUnexpected s

/-- Unexpected event: discarded (45 R253). -/
def fireUnexpected (s : State) : Result := .next { s with tc.port.lev := none }

end Sys2Proof.Machine
end

