-- ==== Sys2Proof/Machine/Telemetry.lean ====
section
/-!
DEFINITION. The register map (30_encoding.md R96), the register reads and writes that are no commands
(46_status_telemetry.md, 60_exceptions.md R296), and RESET_ERRCNT.
-/

namespace Sys2Proof.Machine

/-- The registers of 30 R96. -/
inductive Reg where
  | cmd
  | arg0
  | arg1
  | arg2
  | result
  | status
  | errcode
  | config
  | addr
  | timeoutDefault
  | rate
  | dmaThresh
  | irqPrio
  | irqEn
  | irqPend
  | irqClaim
  | isrDepth
  | rxdata
  | rxpeek
  | rxavail
  | rxlen
  | rxreq
  | txlen
  | txidx
  | rxaddr
  | srxcount
  | recovery
  | errcnt (k : ErrCat)
  deriving DecidableEq, Repr

/-- The slot number of a counter (10 R31). -/
def errIndex : ErrCat → Nat
  | .busReset => 0
  | .timeout => 1
  | .addrNak => 2
  | .dataNak => 3
  | .arbLost => 4
  | .acqFail => 5
  | .dmaErr => 6

/-- The offset of a register (30 R96). -/
def regOff : Reg → Nat
  | .cmd => 0x00
  | .arg0 => 0x04
  | .arg1 => 0x08
  | .arg2 => 0x0C
  | .result => 0x10
  | .status => 0x14
  | .errcode => 0x18
  | .config => 0x1C
  | .addr => 0x20
  | .timeoutDefault => 0x24
  | .rate => 0x28
  | .dmaThresh => 0x2C
  | .irqPrio => 0x30
  | .irqEn => 0x34
  | .irqPend => 0x38
  | .irqClaim => 0x3C
  | .isrDepth => 0x40
  | .rxdata => 0x44
  | .rxpeek => 0x48
  | .rxavail => 0x4C
  | .rxlen => 0x50
  | .rxreq => 0x54
  | .txlen => 0x58
  | .txidx => 0x5C
  | .rxaddr => 0x60
  | .srxcount => 0x64
  | .recovery => 0x68
  | .errcnt k => 0x70 + 4 * errIndex k

/-- The register at an offset; none where the map defines none (30 R96, 20 R73). -/
def regAt (off : Nat) : Option Reg :=
  match off with
  | 0x00 => some .cmd
  | 0x04 => some .arg0
  | 0x08 => some .arg1
  | 0x0C => some .arg2
  | 0x10 => some .result
  | 0x14 => some .status
  | 0x18 => some .errcode
  | 0x1C => some .config
  | 0x20 => some .addr
  | 0x24 => some .timeoutDefault
  | 0x28 => some .rate
  | 0x2C => some .dmaThresh
  | 0x30 => some .irqPrio
  | 0x34 => some .irqEn
  | 0x38 => some .irqPend
  | 0x3C => some .irqClaim
  | 0x40 => some .isrDepth
  | 0x44 => some .rxdata
  | 0x48 => some .rxpeek
  | 0x4C => some .rxavail
  | 0x50 => some .rxlen
  | 0x54 => some .rxreq
  | 0x58 => some .txlen
  | 0x5C => some .txidx
  | 0x60 => some .rxaddr
  | 0x64 => some .srxcount
  | 0x68 => some .recovery
  | 0x70 => some (.errcnt .busReset)
  | 0x74 => some (.errcnt .timeout)
  | 0x78 => some (.errcnt .addrNak)
  | 0x7C => some (.errcnt .dataNak)
  | 0x80 => some (.errcnt .arbLost)
  | 0x84 => some (.errcnt .acqFail)
  | 0x88 => some (.errcnt .dmaErr)
  | _ => none

/-- The value of a register whose read has no side effect and reads no buffer cell (46 R270, R271, R276, R277,
R284). The write-only CMD reads 0 (20 R73); IRQ_CLAIM, RXDATA and RXPEEK have rules of their own, and the
value given here for them is not used. DESIGN CHOICE (log 13): a number with no width in the spec (a length, an index,
`irq_prio`, whose bound PRIO_MAX is OPEN) shows modulo 2^32. -/
def regValue (r : Reg) (s : State) : Word :=
  match r with
  | .cmd => 0
  | .arg0 => s.tc.cmd.arg0
  | .arg1 => s.tc.cmd.arg1
  | .arg2 => s.tc.cmd.arg2
  | .result => s.tc.cmd.result
  | .status => statusWord s
  | .errcode => errCode s
  | .config => configWord s
  | .addr => addrWord s
  | .timeoutDefault => s.tc.cfg.timeoutDefault
  | .rate => s.tc.cfg.rate
  | .dmaThresh => s.tc.cfg.dmaThresh.setWidth 32
  | .irqPrio => BitVec.ofNat 32 s.tc.cfg.irqPrio
  | .irqEn => s.tc.cfg.irqEn.setWidth 32
  | .irqPend => s.tc.ev.irqPend.setWidth 32
  | .irqClaim => (claimed s).setWidth 32
  | .isrDepth => s.tc.ev.isrDepth.setWidth 32
  | .rxdata => 0xFFFFFFFF
  | .rxpeek => 0xFFFFFFFF
  | .rxavail => BitVec.ofNat 32 (s.tc.buf.rxlen - s.tc.buf.rxidx)
  | .rxlen => BitVec.ofNat 32 s.tc.buf.rxlen
  | .rxreq => s.tc.buf.rxreq
  | .txlen => BitVec.ofNat 32 s.tc.buf.txlen
  | .txidx => BitVec.ofNat 32 s.tc.buf.txidx
  | .rxaddr => s.tc.slave.rxaddr.setWidth 32
  | .srxcount => s.tc.slave.srxCount
  | .recovery => recoveryWord s.tc.rcv.stuck s.tc.rcv.resultK
  | .errcnt k => errGet k s.tc.err

/-- A read returns `v`. -/
def returnValue (v : Word) (s : State) : State := { s with rdata := some v }

/-- RXPEEK (46 R275). -/
def readPeek (s : State) : Result :=
  if s.tc.buf.rxidx < s.tc.buf.rxlen then
    readRx s.tc.buf.rxidx s fun b => .next (returnValue (b.setWidth 32) s)
  else .next (returnValue 0xFFFFFFFF s)

/-- RXDATA: the pop (46 R274). -/
def readPop (s : State) : Result :=
  if s.tc.buf.rxidx < s.tc.buf.rxlen then
    readRx s.tc.buf.rxidx s fun b =>
      .next (returnValue (b.setWidth 32) { s with tc.buf.rxidx := s.tc.buf.rxidx + 1 })
  else .next (returnValue 0xFFFFFFFF s)

/-- IRQ_CLAIM: the handler entry (60 R296). -/
def readClaim (s : State) : Result :=
  .next (returnValue ((claimed s).setWidth 32) (claim s))

/-- A register read with its side effect (20 R77). -/
def readReg (r : Reg) (s : State) : Result :=
  match r with
  | .rxdata => readPop s
  | .rxpeek => readPeek s
  | .irqClaim => readClaim s
  | _ => .next (returnValue (regValue r s) s)

/-- STATUS is write-one-to-clear on bits 30 and 31 (30 R97, 46 R272). -/
def writeStatus (v : Word) (s : State) : State :=
  { s with
    tc.cmd.reject := s.tc.cmd.reject && !v.getLsbD 30
    tc.cmd.illegal := s.tc.cmd.illegal && !v.getLsbD 31 }

/-- IRQ_PEND is write-one-to-clear (46 R272). -/
def writeIrqPend (v : Word) (s : State) : State :=
  { s with tc.ev.irqPend := s.tc.ev.irqPend &&& ~~~(v.extractLsb' 0 5) }

/-- A write of any register but CMD (46 R272). A read-only register ignores it (20 R73). CMD is the command
port and is handled where a command is executed. -/
def writeReg (r : Reg) (v : Word) (s : State) : State :=
  match r with
  | .arg0 => { s with tc.cmd.arg0 := v }
  | .arg1 => { s with tc.cmd.arg1 := v }
  | .arg2 => { s with tc.cmd.arg2 := v }
  | .timeoutDefault => { s with tc.cfg.timeoutDefault := v }
  | .dmaThresh => { s with tc.cfg.dmaThresh := v.extractLsb' 0 16 }
  | .irqPrio => { s with tc.cfg.irqPrio := min v.toNat s.par.prioMax }
  | .irqEn => { s with tc.cfg.irqEn := v.extractLsb' 0 5 }
  | .irqPend => writeIrqPend v s
  | .status => writeStatus v s
  | _ => s

/-- RESET_ERRCNT (46 R285). -/
def execResetErrcnt (s : State) : Result :=
  match catOfIndex (argIndex s) with
  | some k => .next { s with tc.err := errSet k 0 s.tc.err }
  | none => .next s

end Sys2Proof.Machine
end

