-- ==== Sys2Proof/Machine/Dispatch.lean ====
section
/-!
DEFINITION. exec: one arm per command, each a direct call of its meaning.
-/

namespace Sys2Proof.Machine

def exec (i : Instr) (s : State) : Host.Outcome State Fault Refusal :=
  match i with
  | .configure => Sys2Proof.Machine.execConfigure s
  | .setStrategy => Sys2Proof.Machine.execSetStrategy s
  | .setRate => Sys2Proof.Machine.execSetRate s
  | .beginWrite => Sys2Proof.Machine.execBeginWrite s
  | .writeByte => Sys2Proof.Machine.execWriteByte s
  | .writeBytes nbytes => Sys2Proof.Machine.execWriteBytes nbytes s
  | .endWrite stop d => Sys2Proof.Machine.execEndWrite stop d s
  | .sendWrite stop => Sys2Proof.Machine.execSendWrite stop s
  | .read stop d => Sys2Proof.Machine.execRead stop d s
  | .sendRead stop => Sys2Proof.Machine.execSendRead stop s
  | .await d => Sys2Proof.Machine.execAwait d s
  | .slaveRelease => Sys2Proof.Machine.execSlaveRelease s
  | .resetBus => Sys2Proof.Machine.execResetBus s
  | .resetErrcnt => Sys2Proof.Machine.execResetErrcnt s
  | .eoi => Sys2Proof.Machine.execEoi s

end Sys2Proof.Machine
end

