-- ==== Sys2Proof/Machine/Link.lean ====
section
/-!
DEFINITION. LINK's deliveries under its contract (30_encoding.md R106, R107) and the routing of clean completions to
the DMA agent (44_dma_handoff.md R221, item 3).
-/

namespace Sys2Proof.Machine

/-- Place an event in `lev`; the slot holds at most one (30 R107 (a)). -/
def placeLev (ev : LinkEv) (s : State) : Result :=
  if s.tc.port.lev.isSome then .refused (.outsideContract .levFull)
  else .next { s with tc.port.lev := some ev }

/-- Take the oldest byte the link was given; the event must answer it (30 R107 (b), (c)). -/
def answerIssued (x : Issued) (s : State) (k : State → Result) : Result :=
  match s.tc.link.issued with
  | y :: rest =>
    if y = x then k { s with tc.link.issued := rest } else .refused (.outsideContract .notIssued)
  | [] => .refused (.outsideContract .notIssued)

/-- A TC completion (30 R106, 44 R221 item 3). -/
def deliverTc (arbl rxak : Bool) (s : State) : Result :=
  answerIssued .write s fun s1 =>
    if !arbl && !rxak && routesTc s1 then .next { s1 with tc.dma.ready := true }
    else placeLev (.tc arbl rxak) s1

/-- An RC completion (30 R106, 44 R221 item 3). -/
def deliverRc (arbl : Bool) (d : Byte) (s : State) : Result :=
  answerIssued .recv s fun s1 =>
    if !arbl && routesRc s1 then dmaTakeByte d s1 else placeLev (.rc arbl d) s1

/-- What a slave event needs: slave mode (30 R107 (f)), and a link that does not stretch SCL
(30 R107 (g), 45 R243). -/
def slaveEvent (s : State) (k : Result) : Result :=
  if s.tc.cfg.mode = .master then .refused (.outsideContract .masterMode)
  else if s.tc.slave.hold != .none || s.tc.link.stretched then .refused (.outsideContract .stretching)
  else k

/-- An address match (30 R107 (g)). After a read address the link stretches until an L_WRITE. -/
def deliverAddr (a : Addr7) (rw : Bool) (s : State) : Result :=
  slaveEvent s
    (if !addrMatches s a then .refused (.outsideContract .noMatch)
     else mapNext (fun t => { t with tc.link.stretched := rw }) (placeLev (.addr a rw) s))

/-- A byte transmitted as slave completed; after an ACK the link stretches until an L_WRITE
(30 R107 (g)). -/
def deliverStx (ack : Bool) (s : State) : Result :=
  slaveEvent s
    (if !s.tc.link.slaveByte then .refused (.outsideContract .notIssued)
     else
       mapNext (fun t => { t with tc.link.slaveByte := false, tc.link.stretched := ack })
         (placeLev (.stx ack) s))

/-- A link event is delivered (30 R107). While the pins are in GPIO mode there is none (h). -/
def deliver (ev : LinkEv) (s : State) : Result :=
  if s.tc.rcv.pinsGpio then .refused (.outsideContract .pinsGpio)
  else
    match ev with
    | .tc arbl rxak => deliverTc arbl rxak s
    | .rc arbl d => deliverRc arbl d s
    | .addr a rw => deliverAddr a rw s
    | .srx d => slaveEvent s (placeLev (.srx d) s)
    | .stx ack => deliverStx ack s
    | .stopf =>
      if !s.par.hasStopf then .refused (.outsideContract .noStopFlag) else slaveEvent s (placeLev .stopf s)

end Sys2Proof.Machine
end

