-- ==== Sys2Proof/Machine/Rules.lean ====
section
/-!
DEFINITION. The event rules as one table: when each is enabled and what it does (00_scope.md R9, 60_exceptions.md
R297, R300).
-/

namespace Sys2Proof.Machine

/-- The guard of a rule, the grant or `cmd_busy` of its step class included (60 R297). -/
def ruleEnabled (r : Rule) (s : State) : Bool :=
  match r with
  | .acquire => canAcquire s
  | .recover => canRecover s
  | .timeout => canTimeout s
  | .txDone => canTxDone s
  | .addrDone => canAddrDone s
  | .rxByte => canRxByte s
  | .rxFinal => canRxFinal s
  | .bulkError => canBulkError s
  | .dmaDone => canDmaDone s
  | .dmaError => canDmaError s
  | .dmaStale => canDmaStale s
  | .boundary => canBoundary s
  | .dispatch => canDispatch s
  | .slaveRx => canSlaveRx s
  | .slaveTx => canSlaveTx s
  | .stopDetect => canStopDetect s
  | .sdaEdge => canSdaEdge s
  | .unexpected => canUnexpected s

/-- The effect of a rule that is enabled. -/
def fireRule (r : Rule) (s : State) : Result :=
  match r with
  | .acquire => fireAcquire s
  | .recover => fireRecover s
  | .timeout => fireTimeout s
  | .txDone => fireTxDone s
  | .addrDone => fireAddrDone s
  | .rxByte => fireRxByte s
  | .rxFinal => fireRxFinal s
  | .bulkError => fireBulkError s
  | .dmaDone => fireDmaDone s
  | .dmaError => fireDmaError s
  | .dmaStale => fireDmaStale s
  | .boundary => fireBoundary s
  | .dispatch => fireDispatch s
  | .slaveRx => fireSlaveRx s
  | .slaveTx => fireSlaveTx s
  | .stopDetect => fireStopDetect s
  | .sdaEdge => fireSdaEdge s
  | .unexpected => fireUnexpected s

/-- A step of the TC by rule `r`. Where the guard does not hold there is no such step (00 R9). -/
def stepRule (r : Rule) (s : State) : Result :=
  if ruleEnabled r s then fireRule r s else .refused (.notEnabled r)

/-- Every rule of the TC. -/
def allRules : List Rule :=
  [.acquire, .recover, .timeout, .txDone, .addrDone, .rxByte, .rxFinal, .bulkError, .dmaDone, .dmaError,
   .dmaStale, .boundary, .dispatch, .slaveRx, .slaveTx, .stopDetect, .sdaEdge, .unexpected]

/-- The TC has an enabled step in the instance in focus; where it has none, it waits (00 R9, 60 R313). -/
def tcCanStep (s : State) : Bool := allRules.any fun r => ruleEnabled r s

end Sys2Proof.Machine
end

