-- ==== Sys2Proof/Machine/Moves.lean ====
section
/-!
DEFINITION. The moves of every agent (00_scope.md R8): host accesses (20_memory.md R72 to R77), the ports, the timer,
power-on reset, and which instance a move concerns (60_exceptions.md R305).
-/

namespace Sys2Proof.Machine

/-! ### Instances (60 R305) -/

/-- The instances, in order. -/
def instances (s : State) : List Tc := s.before ++ s.tc :: s.after

/-- Bring instance `n` into the middle. -/
def focusAt (n : Nat) (s : State) : Option State :=
  match (instances s).drop n with
  | t :: rest => some { s with before := (instances s).take n, tc := t, after := rest }
  | [] => none

/-- The address lies in the register block of an instance: 256 bytes from `BASE[i]` (20 R70). -/
def inBlock (t : Tc) (a : Nat) : Bool := decide (t.base ≤ a) && decide (a < t.base + 0x100)

/-- Bring the instance whose block holds the number into the middle; the one in the middle is asked first. -/
def focusAddr (a : Nat) (s : State) : Option State :=
  if inBlock s.tc a then some s
  else
    match (instances s).findIdx? (fun t => inBlock t a) with
    | some n => focusAt n s
    | none => none

/-- The instance whose block holds a number, brought into the middle, and the offset in its block (20 R70). -/
def focusNumber (a : Nat) (s : State) : Option (State × Nat) := (focusAddr a s).map fun t => (t, a - t.tc.base)

/-- The instance a host address names, brought into the middle, and the offset in its block (20 R70). The spec gives
the form `BASE[n] + off` for `off < 0x100`; DESIGN CHOICE (log 11): with a larger `off` it is the number it
stands for, whichever block that lies in. -/
def focusHost (a : HostAddr) (s : State) : Option (State × Nat) :=
  match a with
  | .reg n off =>
    match focusAt n s with
    | some t => if off < 0x100 then some (t, off) else focusNumber (t.tc.base + off) s
    | none => none
  | .abs a => focusNumber a s

/-! ### Host accesses -/

/-- The access is an aligned 32-bit one (20 R72). -/
def accessOk (off size : Nat) : Bool := size == 4 && off % 4 == 0

/-- A CMD write: the decoded command runs, an illegal opcode sets `cmd_illegal` (30 R100, R101). -/
def writeCmd (w : Word) (s : State) : Result :=
  match decode w with
  | .ok i => exec i s
  | .error _ => .next (illegalCmd s)

/-- `MemRead` at offset `off` of the instance in focus (20 R72, R73, R74). -/
def hostRead (off size : Nat) (s : State) : Result :=
  if !accessOk off size then .fault (.hostAccess off)
  else
    match regAt off with
    | some r => readReg r s
    | none => .next (returnValue 0 s)

/-- `MemWrite` at offset `off` of the instance in focus (20 R72, R73, R74). -/
def hostWrite (off size : Nat) (v : Word) (s : State) : Result :=
  if !accessOk off size then .fault (.hostAccess off)
  else
    match regAt off with
    | some .cmd => writeCmd v s
    | some r => .next (writeReg r v s)
    | none => .next s

/-- The address of a host access. -/
def accessAddr : Access → HostAddr
  | .read a _ => a
  | .write a _ _ => a

/-- A host access: the address selects the instance (20 R70). -/
def hostAccess (a : Access) (s : State) : Result :=
  match a with
  | .read addr size =>
    match focusHost addr s with
    | some t => hostRead t.2 size t.1
    | none => .refused (.outsideBlocks addr)
  | .write addr size v =>
    match focusHost addr s with
    | some t => hostWrite t.2 size v t.1
    | none => .refused (.outsideBlocks addr)

/-! ### The other agents -/

/-- Power-on reset of the instance in focus (70 R320). Every TC element takes its reset value; the link is
idle, the event slots empty (70 R322) and the DMA channel idle; the other inputs keep their values (log 6). -/
def powerOn (s : State) : State :=
  let t := Tc.reset s.par s.tc.base
  { s with
    tc := { t with
      port := { s.tc.port with lev := none, dev := none, sdaRise := false }
      link := { t.link with sent := s.tc.link.sent } } }

/-- PINS reports an SDA rising edge, only while the watch is armed (45 R252). -/
def sdaRise (s : State) : Result :=
  if s.tc.slave.watchArmed then .next { s with tc.port.sdaRise := true }
  else .refused (.outsideContract .watchOff)

/-- A move of the instance in focus. -/
def busMove (m : BusMove) (s : State) : Result :=
  match m with
  | .rule r => stepRule r s
  | .deliver ev => deliver ev s
  | .linkBusy b => .next { s with tc.port.linkBusy := b }
  | .linkArbl b => .next { s with tc.port.linkArbl := b }
  | .dmaAvailable b => .next { s with tc.port.dmaAvailable := b }
  | .dma d => dmaAgent d s
  | .sda b => .next { s with tc.port.sda := b }
  | .scl b => .next { s with tc.port.scl := b }
  | .sdaRise => sdaRise s
  | .powerOn => .next (powerOn s)

/-- HOST presents a priority in 0..PRIO_MAX (30 R108, 60 R312). -/
def presentPrio (p : Nat) (s : State) : Result :=
  if p ≤ s.par.prioMax then .next { s with hostPrio := p } else .refused (.outsideContract .prioRange)

/-- TIMER advances by a positive amount modulo 2^32 (60 R303). -/
def advanceTime (dt : Word) (s : State) : Result :=
  if dt = 0 then .refused (.outsideContract .noTime) else .next { s with nowUs := s.nowUs + dt }

/-- One move of one agent. -/
def move (m : Move) (s : State) : Result :=
  match m with
  | .host a => hostAccess a s
  | .hostPrio p => presentPrio p s
  | .time dt => advanceTime dt s
  | .bus n b =>
    match focusAt n s with
    | some t => busMove b t
    | none => .refused (.noInstance n)

/-- The move to take and the state it starts from: the first of the script, or a free one (log 1, log 2). -/
def nextMove (s : State) : Move × State :=
  match s.script with
  | m :: rest => (m, { s with script := rest })
  | [] => (Config.freeMove s.draws, { s with draws := s.draws + 1 })

/-- The access that writes a command word to CMD of the instance in focus (30 R90). -/
def cmdWrite (w : Word) (s : State) : Move := .host (.write (.reg s.before.length (regOff .cmd)) 4 w)

end Sys2Proof.Machine
end

