-- ==== Sys2Proof/Machine/Step.lean ====
section
/-!
DEFINITION. One step of the machine, and the placing of a command word where the next step takes it.
-/

namespace Sys2Proof.Machine

/-- One atomic step of one agent (00_scope.md R8, 20_memory.md R78). -/
def step (s : State) : Host.Outcome State Fault Refusal :=
  move (nextMove s).1 (nextMove s).2

/-- `s` with the host's next access a write of the command word `w` to CMD of the instance in focus: the
only way a command comes to run (30_encoding.md R90, log 17). -/
def State.withFetchWord (s : State) (nbits w : Nat) : State :=
  { s with script := cmdWrite (BitVec.ofNat 32 (w % 2 ^ nbits)) s :: s.script }

end Sys2Proof.Machine
end

