-- ==== Sys2Proof/Machine/RunEnd.lean ====
section
/-!
DEFINITION. How a command and a run end (60_exceptions.md R290, R313). The model's readings of the host's waiting and of
an environment that withholds a step are log 19.
-/

namespace Sys2Proof.Machine

/-! ### The outcome of a command (30 R100 to R102, 60 R290) -/

/-- How a CMD write is answered. -/
inductive CmdOutcome where
  | illegal
  | rejected
  | refused
  | accepted
  deriving DecidableEq, Repr

/-- The command is rejected: a gated command while `cmd_busy = 1`, or by its own guard (30 R100). -/
def commandRejected (i : Instr) (s : State) : Bool :=
  match i with
  | .configure => s.tc.cmd.busy || masterActive s
  | .setStrategy => s.tc.cmd.busy
  | .setRate => s.tc.cmd.busy
  | .beginWrite => s.tc.cmd.busy || s.tc.cfg.mode == .slave || masterActive s
  | .writeByte => s.tc.cmd.busy || masterActive s
  | .writeBytes _ => s.tc.cmd.busy || masterActive s
  | .endWrite _ _ => s.tc.cmd.busy || startRejects s
  | .sendWrite _ => s.tc.cmd.busy || startRejects s
  | .read _ _ => s.tc.cmd.busy || startRejects s
  | .sendRead _ => s.tc.cmd.busy || startRejects s
  | .await _ => s.tc.cmd.busy
  | .slaveRelease => false
  | .resetBus => s.tc.cmd.busy || masterActive s || s.tc.slave.hold != .none
  | .resetErrcnt => false
  | .eoi => false

/-- A receive of `arg1` bytes is refused: none, or more than the buffer holds (43 R192). -/
def receiveRefused (s : State) : Bool := s.tc.cmd.arg1 == 0 || decide (s.par.rxCap < s.tc.cmd.arg1.toNat)

/-- A command that is not rejected is refused by its own rule: bus busy (40 R123), reserved strategy (30 R102), no
BEGIN_WRITE (42 R161), zero length (42 R164), a receive count that cannot be (43 R192). RESET_ERRCNT is never refused, with an index of
7 or more neither: 60 R290 and 30 R100 list no such refusal, 93 U11 has the word (DESIGN CHOICE: log 21). -/
def commandRefused (i : Instr) (s : State) : Bool :=
  match i with
  | .configure => s.tc.port.linkBusy || (argConfigStrategy s).isNone
  | .setStrategy => s.tc.port.linkBusy || (argStrategy s).isNone
  | .setRate => s.tc.port.linkBusy
  | .beginWrite => false
  | .writeByte => writeRefused s
  | .writeBytes _ => writeRefused s
  | .endWrite _ _ => s.tc.buf.txlen == 0
  | .sendWrite _ => s.tc.buf.txlen == 0
  | .read _ _ => receiveRefused s
  | .sendRead _ => receiveRefused s
  | .await _ => false
  | .slaveRelease => false
  | .resetBus => false
  | .resetErrcnt => false
  | .eoi => false

/-- The outcome of a write of the word `w` to CMD (60 R290). -/
def commandOutcome (w : Word) (s : State) : CmdOutcome :=
  match decode w with
  | .error _ => .illegal
  | .ok i => if commandRejected i s then .rejected else if commandRefused i s then .refused else .accepted

/-! ### The end of a run (60 R313) -/

/-- How a run ends. A refusal is the outcome of a command and ends no run. -/
inductive RunEnd where
  | completed
  | faulted (off : Nat)
  | stuck
  deriving DecidableEq, Repr

/-- LINK owes an event: a byte it was given as master has not completed (30 R107 (b), (c)). A byte sent as slave owes
none: the bus master may end the phase instead. -/
def linkOwes (s : State) : Bool := !s.tc.link.issued.isEmpty

/-- The DMA agent is at an element boundary, where it has a step (44 R221). -/
def dmaCanStep (s : State) : Bool := canTxElement s || canRxIssue s

/-- In the instance in focus the TC has no enabled step, the DMA agent has none and LINK owes no event. -/
def instanceQuiet (s : State) : Bool := !tcCanStep s && !dmaCanStep s && !linkOwes s

/-- The TC has no enabled step in the instance in focus. -/
def tcQuiet (s : State) : Bool := !tcCanStep s

/-- `p` holds of every instance, each brought into focus. -/
def everyInstance (p : State → Bool) (s : State) : Bool :=
  (List.range (instances s).length).all fun n =>
    match focusAt n s with
    | some t => p t
    | none => true

/-- A move of TIMER. -/
def isTime : Move → Bool
  | .time _ => true
  | .host _ => false
  | .hostPrio _ => false
  | .bus _ _ => false

/-- The access polls STATUS of an instance whose CMD_BUSY is still 1 or whose DONE is still 0 (60 R313). -/
def isPoll (s : State) : Access → Bool
  | .read a size =>
    match focusHost a s with
    | some t => size == 4 && t.2 == regOff .status && (t.1.tc.cmd.busy || !isDone t.1)
    | none => false
  | .write _ _ _ => false

/-- The move is a poll of the waiting host, or TIMER's. -/
def isPollOrTime (s : State) : Move → Bool
  | .host a => isPoll s a
  | .time _ => true
  | .hostPrio _ => false
  | .bus _ _ => false

/-- The host is waiting: it polls, and in the rest of the run no agent but TIMER takes a step. -/
def hostWaits (s : State) : Bool := s.script.all (isPollOrTime s) && !s.script.all isTime

/-- The state after TIMER alone has stepped, by `dt` in all. -/
def afterTime (dt : Word) (s : State) : State := { s with nowUs := s.nowUs + dt }

/-- Completed: the host has issued its last access, no agent but TIMER moves in the rest of the run, and none has an
enabled step. DESIGN CHOICE (log 20): so it is also where a command or a transfer can never end and the host has no poll
left; while a poll is left, that run is stuck. -/
def runCompleted (s : State) : Bool := s.script.all isTime && everyInstance instanceQuiet s

/-- Stuck: the host waits, LINK, DMA and the inputs do nothing in the rest of the run, and at no later time has the TC
an enabled step in any instance, so that it can never end the wait. A step LINK or DMA withholds for ever is allowed by
30 R107 (b) and 70 R330. -/
def runStuck (s : State) : Prop :=
  hostWaits s = true ∧ ∀ dt : Word, everyInstance tcQuiet (afterTime dt s) = true

/-- Faulted: the host's access at the head of the script raises the host access fault; the end state is `s`, the
state before it (60 R292). -/
def runFaulted (off : Nat) (s : State) : Prop :=
  ∃ (a : Access) (rest : List Move), s.script = .host a :: rest ∧ step s = .fault (.hostAccess off)

/-- The run ends in state `s` in the way `e` (60 R313). -/
def runEnds (e : RunEnd) (s : State) : Prop :=
  match e with
  | .completed => runCompleted s = true
  | .faulted off => runFaulted off s
  | .stuck => runStuck s

end Sys2Proof.Machine
end

