-- ==== Sys2Proof/Safety.lean ====
section
/-!
DEFINITION. What counts as a safe state and a safe step, in the terms the statements use: the command classes of
30_encoding.md R93, the invariants of 10_state.md R26, R34 and R35, and frames.
-/

namespace Sys2Proof.Machine

/-! ### Command classes (30 R93) -/

/-- The housekeeping commands; every other command is gated (30 R93). -/
def isHousekeeping : Instr → Bool
  | .slaveRelease => true
  | .resetErrcnt => true
  | .eoi => true
  | .configure => false
  | .setStrategy => false
  | .setRate => false
  | .beginWrite => false
  | .writeByte => false
  | .writeBytes _ => false
  | .endWrite _ _ => false
  | .sendWrite _ => false
  | .read _ _ => false
  | .sendRead _ => false
  | .await _ => false
  | .resetBus => false

/-- The four transfer-start commands (41 R140). -/
def isTransferStart : Instr → Bool
  | .endWrite _ _ => true
  | .sendWrite _ => true
  | .read _ _ => true
  | .sendRead _ => true
  | .configure => false
  | .setStrategy => false
  | .setRate => false
  | .beginWrite => false
  | .writeByte => false
  | .writeBytes _ => false
  | .await _ => false
  | .slaveRelease => false
  | .resetBus => false
  | .resetErrcnt => false
  | .eoi => false

/-- The rules whose step class is always TC-ISR (60 R297). -/
def isIsrRule : Rule → Bool
  | .bulkError => true
  | .dmaDone => true
  | .dmaError => true
  | .dmaStale => true
  | .boundary => true
  | .dispatch => true
  | .slaveRx => true
  | .slaveTx => true
  | .stopDetect => true
  | .sdaEdge => true
  | .unexpected => true
  | .acquire => false
  | .recover => false
  | .timeout => false
  | .txDone => false
  | .addrDone => false
  | .rxByte => false
  | .rxFinal => false

/-- The rules whose class depends on the effective strategy (42 R168, 43 R194). -/
def isTransferRule : Rule → Bool
  | .txDone => true
  | .addrDone => true
  | .rxByte => true
  | .rxFinal => true
  | .acquire => false
  | .recover => false
  | .timeout => false
  | .bulkError => false
  | .dmaDone => false
  | .dmaError => false
  | .dmaStale => false
  | .boundary => false
  | .dispatch => false
  | .slaveRx => false
  | .slaveTx => false
  | .stopDetect => false
  | .sdaEdge => false
  | .unexpected => false

/-! ### Frames -/

/-- Everything outside the registers of the instance in focus is unchanged. -/
structure SameOutside (s t : State) : Prop where
  par : t.par = s.par
  before : t.before = s.before
  after : t.after = s.after
  base : t.tc.base = s.tc.base
  hostPrio : t.hostPrio = s.hostPrio
  nowUs : t.nowUs = s.nowUs
  rdata : t.rdata = s.rdata
  script : t.script = s.script
  draws : t.draws = s.draws

/-- Every cell of a buffer outside `[lo, hi)` reads as before. -/
def SameCellsBut (lo hi : Nat) (m m' : Memory) : Prop := ∀ i, i < lo ∨ hi ≤ i → m'.read i = m.read i

/-! ### The invariants -/

/-- The first `n` cells hold a value (10 R35). -/
def CellsBelow (m : Memory) (n : Nat) : Prop := ∀ i, i < n → (m.read i).isSome = true

/-- What holds of one instance in every state a run reaches: the bounds of 10 R26, the canonical form of the
buffers, and 10 R34 (c), (e), (f). -/
structure TcInv (p : Params) (t : Tc) : Prop where
  txCanonical : t.buf.txbuf.wf = true
  rxCanonical : t.buf.rxbuf.wf = true
  txRange : ∀ c ∈ t.buf.txbuf, c.1 < p.txCap
  rxRange : ∀ c ∈ t.buf.rxbuf, c.1 < p.rxCap
  txlenBound : t.buf.txlen ≤ p.txCap
  txidxBound : t.buf.txidx ≤ p.txCap
  rxidxBound : t.buf.rxidx ≤ t.buf.rxlen
  rxlenBound : t.buf.rxlen ≤ p.rxCap
  txWritten : CellsBelow t.buf.txbuf t.buf.txlen
  prioBound : t.cfg.irqPrio ≤ p.prioMax
  busyOp : t.cmd.busy = false ↔ t.cmd.op = .none
  gpioRecover : t.rcv.pinsGpio = true ↔ t.cmd.op = .recover
  stepRecover : t.rcv.step ≠ .idle ↔ t.cmd.op = .recover
  internalRecover : t.rcv.internal = true → t.cmd.op = .recover
  togglesBound : t.rcv.k ≤ recoveryToggles ∧ t.rcv.resultK ≤ recoveryToggles
  toggleOpen : t.rcv.step = .low ∨ t.rcv.step = .high → t.rcv.k < recoveryToggles
  activeMaster : statusMasterActive t.xfer.status = true → t.cfg.mode = .master
  acquireMaster : t.cmd.op = .acq ∨ t.rcv.internal = true → t.cfg.mode = .master
  acquireIdle : t.cmd.op = .acq ∨ t.cmd.op = .recover → statusMasterActive t.xfer.status = false
  rxreqBound : t.buf.rxreq.toNat ≤ p.rxCap

/-- The invariant of the machine's registers. -/
structure MachineInv (s : State) : Prop where
  hostPrioBound : s.hostPrio ≤ s.par.prioMax
  each : ∀ t ∈ instances s, TcInv s.par t

/-- An acquisition is under way, or interrupted by its own recovery (41 R146). -/
def awaitsBus (t : Tc) : Prop := t.cmd.op = .acq ∨ t.rcv.internal = true

/-- What holds of one instance besides `TcInv`: 10 R34 (a), (b), (d), the receive count of 10 R26 and 43 R202 (d), and
what the DMA hand-off rests on. -/
structure TransferInv (t : Tc) : Prop where
  phaseEff : t.xfer.dmaPhase ≠ .off → t.xfer.eff = .dma
  phaseActive : t.xfer.dmaPhase ≠ .off → statusMasterActive t.xfer.status = true
  holdSlave : t.slave.hold ≠ .none → t.cfg.mode = .slave
  toFlagActive : t.xfer.toFlag = true → statusMasterActive t.xfer.status = true
  watchSlave : t.slave.watchArmed = true → t.cfg.mode = .slave
  slavePhase : statusSlaveActive t.xfer.status = true → t.cfg.mode = .slave
  kindMatches : statusMasterActive t.xfer.status = true → (t.xfer.status = .sending ↔ t.cmd.kind = .tx)
  receiveCap : t.cfg.mode = .master → t.buf.rxlen ≤ t.buf.rxreq.toNat
  phaseFloor : t.xfer.dmaPhase ≠ .off →
    (t.cmd.kind = .tx → 4 ≤ t.buf.txlen) ∧ (t.cmd.kind = .rx → 2 ≤ t.buf.rxreq.toNat)
  txReady : awaitsBus t → t.cmd.kind = .tx → 0 < t.buf.txlen ∧ (t.xfer.eff = .dma → 4 ≤ t.buf.txlen)
  rxReady : awaitsBus t → t.cmd.kind = .rx →
    t.buf.rxlen = 0 ∧ 1 ≤ t.buf.rxreq.toNat ∧ (t.xfer.eff = .dma → 2 ≤ t.buf.rxreq.toNat)
  addrPhase : t.xfer.status = .sendAddr → t.buf.rxlen = 0 ∧ 1 ≤ t.buf.rxreq.toNat
  receiveCount : t.xfer.status = .receiving → t.xfer.dmaPhase = .off →
    t.buf.rxlen + (if t.xfer.inflightNak then 1 else 2) ≤ t.buf.rxreq.toNat
  rxWritten : CellsBelow t.buf.rxbuf t.buf.rxlen
  dmaDir : t.xfer.dmaPhase ≠ .off → (t.dma.dir = .tx ↔ t.cmd.kind = .tx)
  dmaEnabled : t.dma.enabled = true → t.xfer.dmaPhase = .bulk
  dmaPending : t.dma.pending = true → t.dma.dir = .rx ∧ t.dma.next ≤ t.dma.last
  dmaTxCells : t.dma.dir = .tx → ∀ i, t.dma.next ≤ i → i ≤ t.dma.last → (t.buf.txbuf.read i).isSome = true
  dmaEvent : t.port.dev ≠ none → t.xfer.dmaPhase = .bulk
  dmaDone : t.port.dev = some .done → t.dma.last < t.dma.next
  bulkStatus : t.xfer.dmaPhase = .bulk ∨ t.xfer.dmaPhase = .last → t.xfer.status ≠ .sendAddr
  rxAddr : t.xfer.dmaPhase = .addr → t.cmd.kind = .rx →
    t.dma.next = 0 ∧ t.dma.last + 2 = t.buf.rxreq.toNat
  rxBulk : t.xfer.dmaPhase = .bulk → t.cmd.kind = .rx →
    t.dma.next = t.buf.rxlen ∧ t.buf.rxlen ≤ t.dma.last + 1 ∧ t.dma.last + 2 = t.buf.rxreq.toNat
  rxLast : t.xfer.dmaPhase = .last → t.cmd.kind = .rx →
    t.buf.rxlen + 1 = t.buf.rxreq.toNat ∧ t.xfer.inflightNak = true

/-- The whole invariant. -/
structure FullInv (s : State) : Prop where
  machine : MachineInv s
  transfer : ∀ t ∈ instances s, TransferInv t

/-! ### An address match left by a CONFIGURE to master (log 15) -/

/-- An address match waits in `lev`. -/
def AddressWaits (t : Tc) : Prop := ∃ a rw, t.port.lev = some (.addr a rw)

/-- No address match waits in master mode. -/
def NoStrayAddress (s : State) : Prop := ∀ t ∈ instances s, t.cfg.mode = .master → ¬ AddressWaits t

/-- While an address match waits the bus is busy, as a link that stretches SCL makes it (30 R107 (g), 45 R255). -/
def BusyWhileAddressed (s : State) : Prop := ∀ t ∈ instances s, AddressWaits t → t.port.linkBusy = true

/-! ### Safe steps -/

/-- The only fault is the spec's own, a host access fault (60 R292). -/
def FaultsOnlyOnAccess (r : Result) : Prop := ∀ f, r = .fault f → ∃ off, f = .hostAccess off

/-- The counters of `e'` are not below those of `e` (10 R31, "monotonic"). -/
def CountersGrow (e e' : ErrCnt) : Prop := ∀ k, errGet k e ≤ errGet k e'

end Sys2Proof.Machine
end

