-- ==== Sys2Proof/Certificates/Slice0/Obligations.lean ====
section
/-!
DEFINITION. The statements for the provers. Each docstring names the rules it formalises; OBLIGATIONS.json lists
them. `emit`, `raiseEv`, `errinc`, `finalize` and `errCode` are the spec's own `emit`, `raise`, `errinc`,
`Finalize()` and `ERRCODE()`; PortCommandEffects, RaiseRespectsEnable, CountersSaturate, FinalizeEffect and
ErrorCodePrecedence say what they are.
-/

open Sys2Proof Sys2Proof.Machine

/-! ### Encoding -/

/-- 30 R90, R91, R93: decoding the word of a well-formed command gives the command back. -/
def Obligations.EncodeDecodeRoundTrip : Prop :=
  ∀ i : Instr, i.wf = true → decode (encode i) = .ok i

/-- 30 R91: bits 31:12 are ignored; S, D and N are read from bits 8, 9 and 11:10 by the commands that use them;
a command that uses no field is decided by OPC alone. -/
def Obligations.CommandWordFields : Prop :=
  (∀ w v : Word, w &&& 0x00000FFF = v &&& 0x00000FFF → decode w = decode v) ∧
  (∀ w : Word, w &&& 0x000000FF = 0x00000012 →
    decode w = .ok (.writeBytes (((w >>> 10) &&& 0x00000003).toNat + 1))) ∧
  (∀ w : Word, w &&& 0x000000FF = 0x00000013 → decode w = .ok (.endWrite (w.getLsbD 8) (w.getLsbD 9))) ∧
  (∀ w : Word, w &&& 0x000000FF = 0x00000014 → decode w = .ok (.sendWrite (w.getLsbD 8))) ∧
  (∀ w : Word, w &&& 0x000000FF = 0x00000015 → decode w = .ok (.read (w.getLsbD 8) (w.getLsbD 9))) ∧
  (∀ w : Word, w &&& 0x000000FF = 0x00000016 → decode w = .ok (.sendRead (w.getLsbD 8))) ∧
  (∀ w : Word, w &&& 0x000000FF = 0x00000017 → decode w = .ok (.await (w.getLsbD 9))) ∧
  (∀ w : Word, w &&& 0x000000FF = 0x00000001 → decode w = .ok .configure) ∧
  (∀ w : Word, w &&& 0x000000FF = 0x00000002 → decode w = .ok .setStrategy) ∧
  (∀ w : Word, w &&& 0x000000FF = 0x00000003 → decode w = .ok .setRate) ∧
  (∀ w : Word, w &&& 0x000000FF = 0x00000010 → decode w = .ok .beginWrite) ∧
  (∀ w : Word, w &&& 0x000000FF = 0x00000011 → decode w = .ok .writeByte) ∧
  (∀ w : Word, w &&& 0x000000FF = 0x00000020 → decode w = .ok .slaveRelease) ∧
  (∀ w : Word, w &&& 0x000000FF = 0x00000030 → decode w = .ok .resetBus) ∧
  (∀ w : Word, w &&& 0x000000FF = 0x00000031 → decode w = .ok .resetErrcnt) ∧
  (∀ w : Word, w &&& 0x000000FF = 0x0000003F → decode w = .ok .eoi)

/-- 30 R91, R93: what the decoder gives is well-formed, has the word's opcode, and is what its own canonical
word decodes to. -/
def Obligations.DecodedCommandsAreWellFormed : Prop :=
  ∀ (w : Word) (i : Instr), decode w = .ok i →
    i.wf = true ∧ encode i &&& 0x000000FF = w &&& 0x000000FF ∧ decode (encode i) = .ok i

/-- 95, the table of command words in section 0: one word or more of each family of 30 R93 decodes to the command it
stands for; and 0xFFFFF113, the word of V-ENC-2 in section 2.1, decodes as 0x113 does, its bits 31:12 being ignored
(30 R91). -/
def Obligations.DecodesSpecWords : Prop :=
  decode 0x00000001 = .ok .configure ∧ decode 0x00000812 = .ok (.writeBytes 3) ∧
  decode 0x00000313 = .ok (.endWrite true true) ∧ decode 0xFFFFF113 = .ok (.endWrite true false) ∧
  decode 0x00000115 = .ok (.read true false) ∧ decode 0x00000217 = .ok (.await true) ∧
  decode 0x00000020 = .ok .slaveRelease ∧ decode 0x00000030 = .ok .resetBus ∧
  decode 0x00000031 = .ok .resetErrcnt ∧ decode 0x0000003F = .ok .eoi

/-- 30 R101: a CMD write with an OPC outside the map sets `cmd_illegal` and changes nothing else. -/
def Obligations.IllegalOpcodeSetsFlagOnly : Prop :=
  ∀ (w : Word) (s : State),
    (w.toNat % 256 = 0 ∨ (4 ≤ w.toNat % 256 ∧ w.toNat % 256 ≤ 0x0F) ∨
      (0x18 ≤ w.toNat % 256 ∧ w.toNat % 256 ≤ 0x1F) ∨ (0x21 ≤ w.toNat % 256 ∧ w.toNat % 256 ≤ 0x2F) ∨
      (0x32 ≤ w.toNat % 256 ∧ w.toNat % 256 ≤ 0x3E) ∨ 0x40 ≤ w.toNat % 256) →
    hostWrite 0x00 4 w s = .next { s with tc.cmd.illegal := true }

/-- When the next move is the host's write of a command word to CMD (30 R90, 20 R74, R83), the step is the execution of
the decoded command, the move being taken from the script; and so for a word placed by `withFetchWord`. That a step
takes the first move of a script (log 1, DESIGN CHOICE) and that a program is loaded as moves of HOST by
`withFetchWord` (log 17, DEDUCED) are the model's own mechanisms and no words of the spec. -/
def Obligations.StepRunsDecodedCommand : Prop :=
  (∀ (s : State) (w : Word) (i : Instr) (rest : List Move),
    decode w = .ok i → s.script = cmdWrite w s :: rest → step s = exec i { s with script := rest }) ∧
  (∀ (s : State) (nbits w : Nat) (i : Instr),
    decodeTableWord nbits w = some i → step (s.withFetchWord nbits w) = exec i s)

/-- 30 R100: the acceptance of a CMD write. A rejected command changes `cmd_reject` only; a housekeeping command
is never rejected and never writes RESULT. The guards are those of 40 R120, 41 R140, R149, 42 R160 to R162. -/
def Obligations.CommandAcceptance : Prop :=
  (∀ (w : Word) (i : Instr) (s : State), decode w = .ok i → hostWrite 0x00 4 w s = exec i s) ∧
  (∀ (w : Word) (e : DecodeError) (s : State), decode w = .error e →
    hostWrite 0x00 4 w s = .next { s with tc.cmd.illegal := true }) ∧
  (∀ (i : Instr) (s : State), isHousekeeping i = false → s.tc.cmd.busy = true →
    exec i s = .next { s with tc.cmd.reject := true }) ∧
  (∀ s : State, masterActive s = true → exec .configure s = .next { s with tc.cmd.reject := true }) ∧
  (∀ s : State, s.tc.cfg.mode = .slave ∨ masterActive s = true →
    exec .beginWrite s = .next { s with tc.cmd.reject := true }) ∧
  (∀ (n : Nat) (s : State), masterActive s = true →
    exec .writeByte s = .next { s with tc.cmd.reject := true } ∧
    exec (.writeBytes n) s = .next { s with tc.cmd.reject := true }) ∧
  (∀ (i : Instr) (s : State), isTransferStart i = true → s.tc.cfg.mode = .slave ∨ masterActive s = true →
    exec i s = .next { s with tc.cmd.reject := true }) ∧
  (∀ s : State, masterActive s = true ∨ s.tc.slave.hold ≠ .none →
    exec .resetBus s = .next { s with tc.cmd.reject := true }) ∧
  (∀ (i : Instr) (s t : State), isHousekeeping i = true → exec i s = .next t →
    t.tc.cmd.reject = s.tc.cmd.reject ∧ t.tc.cmd.result = s.tc.cmd.result)

/-! ### Configuration commands -/

/-- 40 R123: an accepted configuration command that finds `link_busy = 1` writes RESULT 0 and changes nothing
else. -/
def Obligations.ConfigRefusedWhileBusBusy : Prop :=
  ∀ s : State, s.tc.cmd.busy = false → s.tc.port.linkBusy = true →
    (masterActive s = false → exec .configure s = .next { s with tc.cmd.result := 0 }) ∧
    exec .setStrategy s = .next { s with tc.cmd.result := 0 } ∧
    exec .setRate s = .next { s with tc.cmd.result := 0 }

/-- 40 R120, R121: CONFIGURE. It is rejected while a master transfer is active and refused on a busy bus; on a free
bus the reserved strategy code 3 is refused (30 R102), and with any other code every field is written from its bits
of ARG0 to ARG2 and the transfer context is reset. -/
def Obligations.ConfigureEffect : Prop :=
  (∀ s : State, masterActive s = true → exec .configure s = .next { s with tc.cmd.reject := true }) ∧
  (∀ s : State, s.tc.cmd.busy = false → masterActive s = false → s.tc.port.linkBusy = true →
    exec .configure s = .next { s with tc.cmd.result := 0 }) ∧
  ∀ s : State, s.tc.cmd.busy = false → masterActive s = false → s.tc.port.linkBusy = false →
    (s.tc.cmd.arg0.extractLsb' 1 2 = 3 → exec .configure s = .next { s with tc.cmd.result := 0 }) ∧
    ∀ st : Strategy,
      s.tc.cmd.arg0.extractLsb' 1 2 =
        (match st with
        | .immediate => 0
        | .interrupt => 1
        | .dma => 2) →
      let owned := s.tc.cfg.dmaAlloc || s.tc.port.dmaAvailable
      let r := if st = .dma ∧ owned = false then .interrupt else st
      exec .configure s = .next
        { s with
          tc.cfg :=
            { s.tc.cfg with
              mode := if s.tc.cmd.arg0.getLsbD 0 then .slave else .master
              strategy := r
              autoRetry := s.tc.cmd.arg0.getLsbD 3
              prioChk := s.tc.cmd.arg0.getLsbD 4
              rangeEn := s.tc.cmd.arg0.getLsbD 5
              addr1 := s.tc.cmd.arg1.extractLsb' 0 7
              addr2 := s.tc.cmd.arg1.extractLsb' 8 7
              rate := s.tc.cmd.arg2
              dmaAlloc := if st = .dma then owned else s.tc.cfg.dmaAlloc }
          tc.xfer :=
            { status := .waiting, eff := r, stopReq := false, masterHeld := false, dmaPhase := .off,
              toFlag := false, toApplied := false, inflightNak := false, ovf := false,
              rxTarget := s.tc.xfer.rxTarget }
          tc.buf := { s.tc.buf with txlen := 0, txidx := 0, rxlen := 0, rxidx := 0, rxreq := 0 }
          tc.slave :=
            { s.tc.slave with hold := .none, boundaryDone := false, watchArmed := false, spuriousCnt := 0 }
          tc.link.sent := s.tc.link.sent ++ [.rate s.tc.cmd.arg2]
          tc.cmd.result := 1 }

/-- 40 R122, R121: SET_STRATEGY is refused on a busy bus; on a free bus it writes the strategy, the DMA allocation
and RESULT, and the reserved code 3 is refused (30 R102). -/
def Obligations.SetStrategyEffect : Prop :=
  (∀ s : State, s.tc.cmd.busy = false → s.tc.port.linkBusy = true →
    exec .setStrategy s = .next { s with tc.cmd.result := 0 }) ∧
  ∀ s : State, s.tc.cmd.busy = false → s.tc.port.linkBusy = false →
    (s.tc.cmd.arg0.extractLsb' 0 2 = 3 → exec .setStrategy s = .next { s with tc.cmd.result := 0 }) ∧
    ∀ st : Strategy,
      s.tc.cmd.arg0.extractLsb' 0 2 =
        (match st with
        | .immediate => 0
        | .interrupt => 1
        | .dma => 2) →
      let owned := s.tc.cfg.dmaAlloc || s.tc.port.dmaAvailable
      exec .setStrategy s = .next
        { s with
          tc.cfg.strategy := if st = .dma ∧ owned = false then .interrupt else st
          tc.cfg.dmaAlloc := if st = .dma then owned else s.tc.cfg.dmaAlloc
          tc.cmd.result := 1 }

/-- 40 R124: SET_RATE, refused on a busy bus; on a free bus every 32-bit code is accepted. -/
def Obligations.SetRateEffect : Prop :=
  ∀ s : State, s.tc.cmd.busy = false →
    (s.tc.port.linkBusy = true → exec .setRate s = .next { s with tc.cmd.result := 0 }) ∧
    (s.tc.port.linkBusy = false →
      exec .setRate s = .next
        { s with
          tc.cfg.rate := s.tc.cmd.arg0
          tc.link.sent := s.tc.link.sent ++ [.rate s.tc.cmd.arg0]
          tc.cmd.result := 1 })

/-! ### Filling the transmit buffer -/

/-- 42 R160: BEGIN_WRITE puts `{a, 0}` in cell 0 and empties the rest; it is rejected in slave mode or while a
master transfer is active. -/
def Obligations.BeginWriteEffect : Prop :=
  ∀ s : State,
    ((s.tc.cmd.busy = true ∨ s.tc.cfg.mode = .slave ∨ masterActive s = true) →
      exec .beginWrite s = .next { s with tc.cmd.reject := true }) ∧
    (s.tc.cmd.busy = false → s.tc.cfg.mode = .master → masterActive s = false →
      exec .beginWrite s = .next
        { s with
          tc.buf.txbuf := s.tc.buf.txbuf.write 0 (BitVec.ofNat 8 (2 * (s.tc.cmd.arg0.toNat % 128)))
          tc.buf.txlen := 1
          tc.buf.txidx := 0
          tc.xfer.ovf := false
          tc.cmd.result := 1 })

/-- 42 R161: WRITE_BYTE is rejected while a master transfer is active and refused in master mode with an empty
buffer; else it appends ARG0[7:0], or drops it and sets `ovf` where the buffer is full. -/
def Obligations.WriteByteEffect : Prop :=
  (∀ s : State, s.tc.cmd.busy = true ∨ masterActive s = true →
    exec .writeByte s = .next { s with tc.cmd.reject := true }) ∧
  ∀ s : State, s.tc.cmd.busy = false → masterActive s = false →
    (s.tc.cfg.mode = .master → s.tc.buf.txlen = 0 →
      exec .writeByte s = .next { s with tc.cmd.result := 0 }) ∧
    (s.tc.cfg.mode = .slave ∨ s.tc.buf.txlen ≠ 0 → s.tc.buf.txlen < s.par.txCap →
      exec .writeByte s = .next
        { s with
          tc.buf.txbuf := s.tc.buf.txbuf.write s.tc.buf.txlen (s.tc.cmd.arg0.extractLsb' 0 8)
          tc.buf.txlen := s.tc.buf.txlen + 1
          tc.cmd.result := 1 }) ∧
    (s.par.txCap ≤ s.tc.buf.txlen →
      exec .writeByte s = .next { s with tc.xfer.ovf := true, tc.cmd.result := 0 })

/-- 42 R162: WRITE_BYTES, guarded as WRITE_BYTE, appends as many of its `n` bytes as fit, in order from ARG0[7:0];
RESULT is the count, and `ovf` is set if any is dropped. No other cell changes. -/
def Obligations.WriteBytesEffect : Prop :=
  (∀ (n : Nat) (s : State), s.tc.cmd.busy = true ∨ masterActive s = true →
    exec (.writeBytes n) s = .next { s with tc.cmd.reject := true }) ∧
  ∀ (n : Nat) (s : State), 1 ≤ n → n ≤ 4 → s.tc.cmd.busy = false → masterActive s = false →
    (s.tc.cfg.mode = .master → s.tc.buf.txlen = 0 →
      exec (.writeBytes n) s = .next { s with tc.cmd.result := 0 }) ∧
    (s.tc.cfg.mode = .slave ∨ s.tc.buf.txlen ≠ 0 →
      let k := min n (s.par.txCap - s.tc.buf.txlen)
      ∃ m : Memory,
        exec (.writeBytes n) s = .next
          { s with
            tc.buf.txbuf := m
            tc.buf.txlen := s.tc.buf.txlen + k
            tc.xfer.ovf := s.tc.xfer.ovf || decide (k < n)
            tc.cmd.result := BitVec.ofNat 32 k } ∧
        (∀ j, j < k → m.read (s.tc.buf.txlen + j) = some (s.tc.cmd.arg0.extractLsb' (8 * j) 8)) ∧
        SameCellsBut s.tc.buf.txlen (s.tc.buf.txlen + k) s.tc.buf.txbuf m)

/-! ### Starting a transfer -/

/-- 42 R164, 43 R192: a zero-length transmit and a zero-count read write RESULT 0 only; an over-capacity read sets
BufferOverflow and RESULT 1 only. -/
def Obligations.RefusedTransferStarts : Prop :=
  ∀ (s : State) (stop d : Bool), s.tc.cmd.busy = false → s.tc.cfg.mode = .master → masterActive s = false →
    (s.tc.buf.txlen = 0 →
      exec (.endWrite stop d) s = .next { s with tc.cmd.result := 0 } ∧
      exec (.sendWrite stop) s = .next { s with tc.cmd.result := 0 }) ∧
    (s.tc.cmd.arg1 = 0 →
      exec (.read stop d) s = .next { s with tc.cmd.result := 0 } ∧
      exec (.sendRead stop) s = .next { s with tc.cmd.result := 0 }) ∧
    (s.par.rxCap < s.tc.cmd.arg1.toNat →
      exec (.read stop d) s = .next { s with tc.xfer.status := .bufferOverflow, tc.cmd.result := 1 } ∧
      exec (.sendRead stop) s = .next { s with tc.xfer.status := .bufferOverflow, tc.cmd.result := 1 })

/-- 41 R144, for END_WRITE, SEND_WRITE, READ and SEND_READ with the assignments of 42 R165, R166 and 43 R192
before it: the whole effect of an accepted transfer start. -/
def Obligations.StartTransferEffect : Prop :=
  (∀ (s : State) (stop d : Bool), s.tc.cmd.busy = false → s.tc.cfg.mode = .master → masterActive s = false →
    0 < s.tc.buf.txlen →
    let e := resolveEff .tx s.tc.buf.txlen s
    let x : XferRegs :=
      { s.tc.xfer with
        eff := e.1, stopReq := stop, toApplied := false, toFlag := false, inflightNak := false }
    let c : CmdRegs := { s.tc.cmd with busy := true, op := .acq, kind := .tx, t0 := s.nowUs, acqRetried := false }
    exec (.endWrite stop d) s = .next
      { s with
        tc.cfg.irqPrio := e.2
        tc.xfer := x
        tc.cmd :=
          { c with blocking := true, budget := if d then s.tc.cfg.timeoutDefault else s.tc.cmd.arg2 } } ∧
    exec (.sendWrite stop) s = .next
      { s with
        tc.cfg.irqPrio := e.2
        tc.xfer := x
        tc.cmd := { c with blocking := decide (e.1 = .immediate), budget := s.tc.cfg.timeoutDefault } }) ∧
  (∀ (s : State) (stop d : Bool), s.tc.cmd.busy = false → s.tc.cfg.mode = .master → masterActive s = false →
    s.tc.cmd.arg1 ≠ 0 → s.tc.cmd.arg1.toNat ≤ s.par.rxCap →
    let e := resolveEff .rx s.tc.cmd.arg1.toNat s
    let x : XferRegs :=
      { s.tc.xfer with
        eff := e.1, stopReq := stop, toApplied := false, toFlag := false, inflightNak := false, ovf := false,
        rxTarget := s.tc.cmd.arg0.extractLsb' 0 7 }
    let b : BufRegs := { s.tc.buf with rxreq := s.tc.cmd.arg1, rxlen := 0, rxidx := 0 }
    let c : CmdRegs := { s.tc.cmd with busy := true, op := .acq, kind := .rx, t0 := s.nowUs, acqRetried := false }
    exec (.read stop d) s = .next
      { s with
        tc.cfg.irqPrio := e.2
        tc.xfer := x
        tc.buf := b
        tc.cmd :=
          { c with blocking := true, budget := if d then s.tc.cfg.timeoutDefault else s.tc.cmd.arg2 } } ∧
    exec (.sendRead stop) s = .next
      { s with
        tc.cfg.irqPrio := e.2
        tc.xfer := x
        tc.buf := b
        tc.cmd := { c with blocking := decide (e.1 = .immediate), budget := s.tc.cfg.timeoutDefault } })

/-- 41 R142, R143: priority escalation and the DMA threshold, by the cases of the spec. `resolveEff` answers the
effective strategy and the new `irq_prio`. -/
def Obligations.EffectiveStrategy : Prop :=
  ∀ (k : Kind) (len : Nat) (s : State),
    let least := max s.tc.cfg.dmaThresh.toNat (if k = .tx then 4 else 2)
    let kept := if s.tc.cfg.strategy = .dma ∧ len < least then .interrupt else s.tc.cfg.strategy
    let checked := s.tc.cfg.prioChk = true ∧ s.tc.ev.isrDepth = 0 ∧ s.tc.cfg.irqPrio ≤ s.hostPrio
    (s.tc.cfg.strategy = .immediate → resolveEff k len s = (.immediate, s.tc.cfg.irqPrio)) ∧
    (s.tc.cfg.strategy ≠ .immediate → checked → s.hostPrio < s.par.prioMax →
      resolveEff k len s = (kept, s.hostPrio + 1)) ∧
    (s.tc.cfg.strategy ≠ .immediate → checked → s.par.prioMax ≤ s.hostPrio →
      resolveEff k len s = (.immediate, s.tc.cfg.irqPrio)) ∧
    (s.tc.cfg.strategy ≠ .immediate → ¬ checked → resolveEff k len s = (kept, s.tc.cfg.irqPrio))

/-- 43 R195: AWAIT returns at once with ERRCODE where no master transfer is active; else it waits with the budget
of its D flag. -/
def Obligations.AwaitEffect : Prop :=
  ∀ (d : Bool) (s : State), s.tc.cmd.busy = false →
    (masterActive s = false → exec (.await d) s = .next { s with tc.cmd.result := errCode s }) ∧
    (masterActive s = true →
      exec (.await d) s = .next
        { s with
          tc.cmd.busy := true
          tc.cmd.op := .await
          tc.cmd.t0 := s.nowUs
          tc.cmd.budget := if d then s.tc.cfg.timeoutDefault else s.tc.cmd.arg2
          tc.xfer.toApplied := false })

/-! ### Slave release, recovery and housekeeping commands -/

/-- 45 R250: SLAVE_RELEASE. The first byte sent is `txbuf[0]`, or 0 with an empty buffer; without a hold nothing
happens. With `txlen > 0` and no value in cell 0, which no run reaches, the model faults (10 R35). -/
def Obligations.SlaveReleaseEffect : Prop :=
  ∀ s : State,
    (s.tc.slave.hold = .none → exec .slaveRelease s = .next s) ∧
    (s.tc.slave.hold = .srx → exec .slaveRelease s = .next { s with tc.slave.hold := .none }) ∧
    (s.tc.slave.hold = .sreq → s.tc.buf.txlen = 0 →
      exec .slaveRelease s = .next (emit (.write 0) { s with tc.slave.hold := .none, tc.buf.txidx := 0 })) ∧
    (∀ b : Byte, s.tc.slave.hold = .sreq → 0 < s.tc.buf.txlen → s.tc.buf.txbuf.read 0 = some b →
      exec .slaveRelease s = .next (emit (.write b) { s with tc.slave.hold := .none, tc.buf.txidx := 0 })) ∧
    (s.tc.slave.hold = .sreq → 0 < s.tc.buf.txlen → s.tc.buf.txbuf.read 0 = none →
      exec .slaveRelease s = .fault (.unwrittenCell .tx 0))

/-- 41 R149, R150: RESET_BUS starts the recovery: the pins go to GPIO, SDA and SCL are released. -/
def Obligations.ResetBusEffect : Prop :=
  ∀ s : State, s.tc.cmd.busy = false → masterActive s = false → s.tc.slave.hold = .none →
    exec .resetBus s = .next
      { s with
        tc.cmd.busy := true
        tc.cmd.op := .recover
        tc.rcv.internal := false
        tc.rcv.pinsGpio := true
        tc.rcv.k := 0
        tc.rcv.step := .sample
        tc.link.sent := s.tc.link.sent ++ [.pins true, .sdaRelease, .sclRelease] }

/-- 46 R285: RESET_ERRCNT clears the counter ARG0[7:0] names, by the slots of 10 R31, and changes nothing else; an
index of 7 or more names none (30 R102). -/
def Obligations.ResetErrcntEffect : Prop :=
  ∀ s : State,
    let k := s.tc.cmd.arg0.toNat % 256
    exec .resetErrcnt s = .next
      { s with
        tc.err :=
          { busReset := if k = 0 then 0 else s.tc.err.busReset
            timeout := if k = 1 then 0 else s.tc.err.timeout
            addrNak := if k = 2 then 0 else s.tc.err.addrNak
            dataNak := if k = 3 then 0 else s.tc.err.dataNak
            arbLost := if k = 4 then 0 else s.tc.err.arbLost
            acqFail := if k = 5 then 0 else s.tc.err.acqFail
            dmaErr := if k = 6 then 0 else s.tc.err.dmaErr } }

/-- 60 R298: EOI takes one level off `isr_depth`, which stays at 0. -/
def Obligations.EoiEffect : Prop :=
  ∀ s : State, ∃ d : Byte, exec .eoi s = .next { s with tc.ev.isrDepth := d } ∧
    d.toNat = s.tc.ev.isrDepth.toNat - 1

/-! ### What commands leave unchanged -/

/-- The frame of all fifteen commands: nothing outside the instance, no operand register, no port input, no DMA
channel, no event bit, no received byte changes; the counters change by RESET_ERRCNT only; the cells of the
transmit buffer change only where BEGIN_WRITE (cell 0), WRITE_BYTE and WRITE_BYTES (from `txlen` on) store. -/
def Obligations.CommandsFrame : Prop :=
  ∀ (i : Instr) (s t : State), exec i s = .next t →
    SameOutside s t ∧ t.tc.port = s.tc.port ∧ t.tc.dma = s.tc.dma ∧ t.tc.ev.irqPend = s.tc.ev.irqPend ∧
    t.tc.cfg.irqEn = s.tc.cfg.irqEn ∧ t.tc.cfg.timeoutDefault = s.tc.cfg.timeoutDefault ∧
    t.tc.cfg.dmaThresh = s.tc.cfg.dmaThresh ∧ t.tc.cmd.arg0 = s.tc.cmd.arg0 ∧
    t.tc.cmd.arg1 = s.tc.cmd.arg1 ∧ t.tc.cmd.arg2 = s.tc.cmd.arg2 ∧
    t.tc.slave.rxaddr = s.tc.slave.rxaddr ∧ t.tc.slave.srxCount = s.tc.slave.srxCount ∧
    (∀ c, t.tc.buf.rxbuf.read c = s.tc.buf.rxbuf.read c) ∧
    (i ≠ .resetErrcnt → t.tc.err = s.tc.err) ∧ (i ≠ .eoi → t.tc.ev.isrDepth = s.tc.ev.isrDepth) ∧
    (i = .beginWrite → SameCellsBut 0 1 s.tc.buf.txbuf t.tc.buf.txbuf) ∧
    (i = .writeByte → SameCellsBut s.tc.buf.txlen (s.tc.buf.txlen + 1) s.tc.buf.txbuf t.tc.buf.txbuf) ∧
    (∀ n, i = .writeBytes n → SameCellsBut s.tc.buf.txlen (s.tc.buf.txlen + n) s.tc.buf.txbuf t.tc.buf.txbuf) ∧
    (i ≠ .beginWrite → i ≠ .writeByte → (∀ n, i ≠ .writeBytes n) →
      ∀ c, t.tc.buf.txbuf.read c = s.tc.buf.txbuf.read c)

/-! ### Registers -/

/-- 46 R280: the public error code and its precedence. -/
def Obligations.ErrorCodePrecedence : Prop :=
  ∀ s : State,
    (s.tc.xfer.status ∈ [.sending, .sendAddr, .receiving, .slaveTx, .slaveRx] → errCode s = 0xFF) ∧
    (s.tc.xfer.status ∉ [.sending, .sendAddr, .receiving, .slaveTx, .slaveRx] →
      (s.tc.xfer.ovf = true ∨ s.tc.xfer.status = .bufferOverflow → errCode s = 1) ∧
      (s.tc.xfer.ovf = false →
        (s.tc.xfer.status = .addrNak → errCode s = 2) ∧
        (s.tc.xfer.status = .dataNak → errCode s = 3) ∧
        (s.tc.xfer.status ∈ [.arbitrationLost, .timeout, .busNotAcquired, .dmaError] → errCode s = 4) ∧
        (s.tc.xfer.status = .waiting → errCode s = 0)))

/-- 46 R270: a STATUS read returns each field at its place, in the codes of 10 R22, R25 and 30 R97, R99, and has no
side effect. -/
def Obligations.StatusReadFields : Prop :=
  ∀ s : State, ∃ v : Word, hostRead 0x14 4 s = .next { s with rdata := some v } ∧
    v.extractLsb' 0 4 =
      (match s.tc.xfer.status with
      | .waiting => 0
      | .sending => 1
      | .sendAddr => 2
      | .receiving => 3
      | .slaveTx => 4
      | .slaveRx => 5
      | .timeout => 6
      | .addrNak => 7
      | .dataNak => 8
      | .arbitrationLost => 9
      | .bufferOverflow => 10
      | .busNotAcquired => 11
      | .dmaError => 12) ∧
    v.getLsbD 4 = decide (s.tc.xfer.status ∉ [.sending, .sendAddr, .receiving, .slaveTx, .slaveRx]) ∧
    v.getLsbD 5 = s.tc.port.linkBusy ∧ v.getLsbD 6 = s.tc.xfer.masterHeld ∧
    v.extractLsb' 7 2 =
      (match s.tc.xfer.dmaPhase with
      | .off => 0
      | .addr => 1
      | .bulk => 2
      | .last => 3) ∧
    v.getLsbD 9 = s.tc.xfer.ovf ∧
    v.getLsbD 10 = s.tc.cmd.busy ∧ v.getLsbD 11 = s.tc.xfer.toFlag ∧ v.getLsbD 12 = s.tc.rcv.stuck ∧
    v.extractLsb' 13 2 =
      (match s.tc.slave.hold with
      | .none => 0
      | .srx => 1
      | .sreq => 2) ∧
    v.getLsbD 15 = s.tc.slave.watchArmed ∧
    v.extractLsb' 16 2 =
      (match s.tc.xfer.eff with
      | .immediate => 0
      | .interrupt => 1
      | .dma => 2) ∧
    v.getLsbD 18 = decide (s.tc.cfg.mode = .slave) ∧
    v.extractLsb' 19 11 = 0 ∧ v.getLsbD 30 = s.tc.cmd.reject ∧ v.getLsbD 31 = s.tc.cmd.illegal

/-- 46 R271, R276, R277, R284: the reads without side effect, by their offsets in 30 R96, the codes of 30 R98, R99 and
the counter slots of 10 R31. That a number with no width in the spec shows modulo 2^32 is the model's choice
(log 13). -/
def Obligations.PlainRegisterReads : Prop :=
  ∀ s : State,
    let returns (off : Nat) (v : Word) : Prop := hostRead off 4 s = .next { s with rdata := some v }
    returns 0x04 s.tc.cmd.arg0 ∧ returns 0x08 s.tc.cmd.arg1 ∧ returns 0x0C s.tc.cmd.arg2 ∧
    returns 0x10 s.tc.cmd.result ∧ returns 0x18 (errCode s) ∧
    returns 0x1C (BitVec.ofNat 32
      ((if s.tc.cfg.mode = .slave then 1 else 0) +
        2 * (match s.tc.cfg.strategy with
          | .immediate => 0
          | .interrupt => 1
          | .dma => 2) +
        8 * s.tc.cfg.autoRetry.toNat + 16 * s.tc.cfg.prioChk.toNat + 32 * s.tc.cfg.rangeEn.toNat +
        64 * s.tc.cfg.dmaAlloc.toNat)) ∧
    returns 0x20 (BitVec.ofNat 32 (s.tc.cfg.addr1.toNat + 256 * s.tc.cfg.addr2.toNat)) ∧
    returns 0x24 s.tc.cfg.timeoutDefault ∧ returns 0x28 s.tc.cfg.rate ∧
    returns 0x2C (s.tc.cfg.dmaThresh.setWidth 32) ∧ returns 0x30 (BitVec.ofNat 32 s.tc.cfg.irqPrio) ∧
    returns 0x34 (s.tc.cfg.irqEn.setWidth 32) ∧ returns 0x38 (s.tc.ev.irqPend.setWidth 32) ∧
    returns 0x40 (s.tc.ev.isrDepth.setWidth 32) ∧
    returns 0x4C (BitVec.ofNat 32 (s.tc.buf.rxlen - s.tc.buf.rxidx)) ∧
    returns 0x50 (BitVec.ofNat 32 s.tc.buf.rxlen) ∧ returns 0x54 s.tc.buf.rxreq ∧
    returns 0x58 (BitVec.ofNat 32 s.tc.buf.txlen) ∧ returns 0x5C (BitVec.ofNat 32 s.tc.buf.txidx) ∧
    returns 0x60 (s.tc.slave.rxaddr.setWidth 32) ∧ returns 0x64 s.tc.slave.srxCount ∧
    returns 0x68 (BitVec.ofNat 32 (s.tc.rcv.resultK % 16 + 256 * s.tc.rcv.stuck.toNat)) ∧
    returns 0x70 s.tc.err.busReset ∧ returns 0x74 s.tc.err.timeout ∧ returns 0x78 s.tc.err.addrNak ∧
    returns 0x7C s.tc.err.dataNak ∧ returns 0x80 s.tc.err.arbLost ∧ returns 0x84 s.tc.err.acqFail ∧
    returns 0x88 s.tc.err.dmaErr

/-- 46 R272: each writable register's write, accepted in every state. -/
def Obligations.WritableRegisters : Prop :=
  ∀ (v : Word) (s : State),
    hostWrite 0x04 4 v s = .next { s with tc.cmd.arg0 := v } ∧
    hostWrite 0x08 4 v s = .next { s with tc.cmd.arg1 := v } ∧
    hostWrite 0x0C 4 v s = .next { s with tc.cmd.arg2 := v } ∧
    hostWrite 0x24 4 v s = .next { s with tc.cfg.timeoutDefault := v } ∧
    hostWrite 0x2C 4 v s = .next { s with tc.cfg.dmaThresh := v.extractLsb' 0 16 } ∧
    hostWrite 0x30 4 v s = .next
      { s with tc.cfg.irqPrio := if v.toNat ≤ s.par.prioMax then v.toNat else s.par.prioMax } ∧
    hostWrite 0x34 4 v s = .next { s with tc.cfg.irqEn := v.extractLsb' 0 5 } ∧
    hostWrite 0x38 4 v s = .next { s with tc.ev.irqPend := s.tc.ev.irqPend &&& ~~~(v.extractLsb' 0 5) } ∧
    hostWrite 0x14 4 v s = .next
      { s with
        tc.cmd.reject := if v.getLsbD 30 then false else s.tc.cmd.reject
        tc.cmd.illegal := if v.getLsbD 31 then false else s.tc.cmd.illegal }

/-- 20 R73, R77, 10 R23: no register access but a CMD write touches the transfer, the transmit buffer, the slave
dispatcher, the recovery, the counters or the ports; a read changes only the read cursor (RXDATA) and the event
state (IRQ_CLAIM); a write to an undefined offset or a read-only register changes nothing. -/
def Obligations.RegisterAccessFrame : Prop :=
  (∀ (off : Nat) (v : Word) (s t : State), off ≠ 0x00 → hostWrite off 4 v s = .next t →
    SameOutside s t ∧ t.tc.xfer = s.tc.xfer ∧ t.tc.buf = s.tc.buf ∧ t.tc.slave = s.tc.slave ∧
    t.tc.rcv = s.tc.rcv ∧ t.tc.err = s.tc.err ∧ t.tc.port = s.tc.port ∧ t.tc.dma = s.tc.dma ∧
    t.tc.link = s.tc.link) ∧
  (∀ (off : Nat) (s t : State), hostRead off 4 s = .next t →
    ∃ (n : Nat) (e : EvRegs) (r : Option Word),
      t = { s with tc.buf.rxidx := n, tc.ev := e, rdata := r } ∧
      (off ≠ 0x44 → n = s.tc.buf.rxidx) ∧ (off ≠ 0x3C → e = s.tc.ev)) ∧
  (∀ (off : Nat) (v : Word) (s : State), off % 4 = 0 →
    off ∈ [0x10, 0x18, 0x1C, 0x20, 0x28, 0x3C, 0x40, 0x44, 0x48, 0x4C, 0x50, 0x54, 0x58, 0x5C, 0x60, 0x64,
      0x68, 0x6C, 0x70, 0x74, 0x78, 0x7C, 0x80, 0x84, 0x88] ∨ 0x8C ≤ off →
    hostWrite off 4 v s = .next s)

/-- 20 R72: a host access raises `Fault(HOST_ACCESS, off)` exactly when its size is not 4 or its offset is no
multiple of 4; the answer holds no new state. -/
def Obligations.MisalignedAccessFaults : Prop :=
  ∀ (off size o : Nat) (v : Word) (s : State),
    (hostRead off size s = .fault (.hostAccess o) ↔ o = off ∧ (size ≠ 4 ∨ off % 4 ≠ 0)) ∧
    (hostWrite off size v s = .fault (.hostAccess o) ↔ o = off ∧ (size ≠ 4 ∨ off % 4 ≠ 0))

/-- 46 R274, R275: RXDATA pops and RXPEEK does not; both return 0xFFFFFFFF with nothing available. A cell below
`rxlen` with no value, which no run reaches, is a fault of the model (10 R35). -/
def Obligations.ReceiveBufferReads : Prop :=
  (∀ (s : State) (b : Byte), s.tc.buf.rxidx < s.tc.buf.rxlen → s.tc.buf.rxbuf.read s.tc.buf.rxidx = some b →
    hostRead 0x44 4 s = .next
      { s with tc.buf.rxidx := s.tc.buf.rxidx + 1, rdata := some (BitVec.ofNat 32 b.toNat) } ∧
    hostRead 0x48 4 s = .next { s with rdata := some (BitVec.ofNat 32 b.toNat) }) ∧
  (∀ s : State, s.tc.buf.rxlen ≤ s.tc.buf.rxidx →
    hostRead 0x44 4 s = .next { s with rdata := some 0xFFFFFFFF } ∧
    hostRead 0x48 4 s = .next { s with rdata := some 0xFFFFFFFF }) ∧
  (∀ s : State, s.tc.buf.rxidx < s.tc.buf.rxlen → s.tc.buf.rxbuf.read s.tc.buf.rxidx = none →
    hostRead 0x44 4 s = .fault (.unwrittenCell .rx s.tc.buf.rxidx) ∧
    hostRead 0x48 4 s = .fault (.unwrittenCell .rx s.tc.buf.rxidx))

/-! ### Events and counters -/

/-- 60 R295, R296: the interrupt request output, and the IRQ_CLAIM read, after which it is low. -/
def Obligations.ClaimOpensHandler : Prop :=
  ∀ s : State,
    (irqLine s = true ↔ ∃ j, j < 5 ∧ s.tc.ev.irqPend.getLsbD j = true ∧ s.tc.cfg.irqEn.getLsbD j = true) ∧
    (∀ t : State, hostRead 0x3C 4 s = .next t → irqLine t = false) ∧
    let v := s.tc.ev.irqPend &&& s.tc.cfg.irqEn
    ∃ d : Byte,
      hostRead 0x3C 4 s = .next
        { s with
          tc.ev.irqPend := s.tc.ev.irqPend &&& ~~~v
          tc.ev.isrDepth := d
          rdata := some (v.setWidth 32) } ∧
      (v = 0 → d = s.tc.ev.isrDepth) ∧
      (v ≠ 0 → d.toNat = if s.tc.ev.isrDepth.toNat = 255 then 255 else s.tc.ev.isrDepth.toNat + 1)

/-- 60 R294, R295: a raise sets the event's bit if it is enabled, and with it the interrupt request output; it does
nothing otherwise. -/
def Obligations.RaiseRespectsEnable : Prop :=
  ∀ (e : HostEv) (s : State),
    let bit : Nat :=
      match e with
      | .srxDone => 0
      | .sreq => 1
      | .mtxDone => 2
      | .mrxDone => 3
      | .err => 4
    (s.tc.cfg.irqEn.getLsbD bit = false → raiseEv e s = s) ∧
    (s.tc.cfg.irqEn.getLsbD bit = true →
      irqLine (raiseEv e s) = true ∧
      ∃ p : BitVec 5, raiseEv e s = { s with tc.ev.irqPend := p } ∧
        ∀ j, p.getLsbD j = if j = bit then true else s.tc.ev.irqPend.getLsbD j)

/-- 46 R283: `errinc(k)` adds 1 to `errcnt[k]`, which stays at 0xFFFFFFFF, and changes nothing else. -/
def Obligations.CountersSaturate : Prop :=
  (∀ e : ErrCnt,
    errGet .busReset e = e.busReset ∧ errGet .timeout e = e.timeout ∧ errGet .addrNak e = e.addrNak ∧
    errGet .dataNak e = e.dataNak ∧ errGet .arbLost e = e.arbLost ∧ errGet .acqFail e = e.acqFail ∧
    errGet .dmaErr e = e.dmaErr) ∧
  ∀ (k : ErrCat) (s : State), ∃ e : ErrCnt, errinc k s = { s with tc.err := e } ∧
    (errGet k e).toNat = min (2 ^ 32 - 1) ((errGet k s.tc.err).toNat + 1) ∧
    ∀ j : ErrCat, j ≠ k → errGet j e = errGet j s.tc.err

/-- 10 R31: no counter falls but by RESET_ERRCNT and power-on reset. -/
def Obligations.CountersNeverFall : Prop :=
  (∀ (i : Instr) (s t : State), i ≠ .resetErrcnt → exec i s = .next t → CountersGrow s.tc.err t.tc.err) ∧
  (∀ (m : BusMove) (s t : State), m ≠ .powerOn → busMove m s = .next t → CountersGrow s.tc.err t.tc.err) ∧
  (∀ (off size : Nat) (v : Word) (s t : State), off ≠ 0x00 →
    (hostRead off size s = .next t ∨ hostWrite off size v s = .next t) → t.tc.err = s.tc.err)

/-- 60 R297: a step of the interrupt class needs `irq_prio > host_prio`, a foreground step needs
`cmd_busy = 1`, and no step changes `host_prio`. The class of a transfer rule holds exactly as 42 R168 and 43 R194
say. A rule whose guard does not hold has no step (00 R9). -/
def Obligations.StepClassGuards : Prop :=
  (∀ s : State,
    transferClass s = true ↔
      if s.tc.xfer.eff = .immediate then s.tc.cmd.busy = true ∧ s.tc.cmd.op = .xfer
      else s.hostPrio < s.tc.cfg.irqPrio) ∧
  (∀ (r : Rule) (s : State), ruleEnabled r s = false → stepRule r s = .refused (.notEnabled r)) ∧
  ∀ (r : Rule) (s t : State), stepRule r s = .next t →
    (isIsrRule r = true ∨ (isTransferRule r = true ∧ s.tc.xfer.eff ≠ .immediate) →
      s.hostPrio < s.tc.cfg.irqPrio) ∧
    (isIsrRule r = false → (isTransferRule r = false ∨ s.tc.xfer.eff = .immediate) → s.tc.cmd.busy = true) ∧
    t.hostPrio = s.hostPrio

/-! ### Acquisition and recovery -/

/-- 41 R145, R146, R147: the acquisition poll and its guard, with the launches of 42 R167, R222 and 43 R193, R223.
RESULT after a failure is 4 (46 R273); that it is 4 also where the transmit overflowed is the model's reading (log 18,
DEDUCED). -/
def Obligations.AcquisitionPoll : Prop :=
  (∀ s : State, ruleEnabled .acquire s = true ↔
    s.tc.cmd.busy = true ∧ s.tc.cmd.op = .acq ∧ s.tc.rcv.step = .idle ∧
      (s.tc.xfer.masterHeld = true ∨ s.tc.port.linkBusy = false ∨ expired s = true)) ∧
  ∀ s : State, s.tc.cmd.busy = true → s.tc.cmd.op = .acq → s.tc.rcv.step = .idle →
    let claimedBus : State :=
      if s.tc.xfer.masterHeld then emit .rstart s else { emit .start s with tc.xfer.masterHeld := true }
    let goOn : State → State := fun t =>
      if t.tc.cmd.blocking then { t with tc.cmd.op := .xfer }
      else { t with tc.cmd.result := 0xFF, tc.cmd.busy := false, tc.cmd.op := .none }
    (s.tc.xfer.masterHeld = false → s.tc.port.linkBusy = true → expired s = false →
      stepRule .acquire s = .refused (.notEnabled .acquire)) ∧
    (s.tc.xfer.masterHeld = true ∨ s.tc.port.linkBusy = false →
      (∀ b : Byte, s.tc.cmd.kind = .tx → s.tc.buf.txbuf.read 0 = some b →
        let t1 : State := { claimedBus with tc.xfer.status := .sending, tc.buf.txidx := 0 }
        let t2 : State :=
          if s.tc.xfer.eff = .dma then
            { emit (.dmaProgram .tx 2 (s.tc.buf.txlen - 3)) t1 with tc.xfer.dmaPhase := .addr }
          else t1
        stepRule .acquire s = .next (goOn (emit (.write b) t2))) ∧
      (s.tc.cmd.kind = .rx →
        let t1 : State := { claimedBus with tc.xfer.status := .sendAddr }
        let t2 : State :=
          if s.tc.xfer.eff = .dma then
            { emit (.dmaProgram .rx 0 (s.tc.buf.rxreq.toNat - 1)) t1 with tc.xfer.dmaPhase := .addr }
          else t1
        stepRule .acquire s = .next
          (goOn (emit (.write (BitVec.ofNat 8 (2 * s.tc.xfer.rxTarget.toNat + 1))) t2)))) ∧
    (s.tc.xfer.masterHeld = false → s.tc.port.linkBusy = true → expired s = true →
      (s.tc.cfg.autoRetry = true ∧ s.tc.cmd.acqRetried = false →
        stepRule .acquire s = .next
          { s with
            tc.cmd.acqRetried := true
            tc.cmd.op := .recover
            tc.rcv.internal := true
            tc.rcv.pinsGpio := true
            tc.rcv.k := 0
            tc.rcv.step := .sample
            tc.link.sent := s.tc.link.sent ++ [.pins true, .sdaRelease, .sclRelease] }) ∧
      (s.tc.cfg.autoRetry = false ∨ s.tc.cmd.acqRetried = true →
        stepRule .acquire s = .next
          { raiseEv .err (errinc .acqFail s) with
            tc.xfer.status := .busNotAcquired
            tc.cmd.result := 4
            tc.cmd.busy := false
            tc.cmd.op := .none }))

/-- 41 R151, R152: the recovery steps and their guard. At the end, an auto-retry goes back to the acquisition and
RESET_BUS completes with the toggles in RESULT[3:0] and the stuck line in RESULT[8]. -/
def Obligations.RecoverySteps : Prop :=
  (∀ s : State, s.tc.cmd.busy = false ∨ s.tc.cmd.op ≠ .recover ∨ s.tc.rcv.step = .idle →
    stepRule .recover s = .refused (.notEnabled .recover)) ∧
  ∀ s : State, s.tc.cmd.busy = true → s.tc.cmd.op = .recover →
    (s.tc.rcv.step = .sample → s.tc.port.sda = false → s.tc.rcv.k ≠ 9 →
      stepRule .recover s = .next { emit .sclLow s with tc.rcv.step := .low }) ∧
    (s.tc.rcv.step = .low →
      stepRule .recover s = .next { emit .sclRelease s with tc.rcv.t := s.nowUs, tc.rcv.step := .high }) ∧
    (s.tc.rcv.step = .high →
      let passed :=
        s.tc.port.scl = true ∨ ∃ x, s.par.sclWait = .bounded x ∧ x + 1 ≤ (s.nowUs - s.tc.rcv.t).toNat
      (passed → stepRule .recover s = .next { s with tc.rcv.k := s.tc.rcv.k + 1, tc.rcv.step := .sample }) ∧
      (¬ passed → stepRule .recover s = .refused (.notEnabled .recover))) ∧
    (s.tc.rcv.step = .sample → s.tc.port.sda = true ∨ s.tc.rcv.k = 9 →
      let t : State :=
        { errinc .busReset (emit (.pins false) s) with
          tc.rcv.stuck := !s.tc.port.sda
          tc.rcv.resultK := s.tc.rcv.k
          tc.rcv.pinsGpio := false
          tc.rcv.step := .idle
          tc.xfer.status := .waiting
          tc.xfer.masterHeld := false
          tc.xfer.dmaPhase := .off
          tc.xfer.toFlag := false }
      (s.tc.rcv.internal = true →
        stepRule .recover s = .next
          { t with tc.rcv.internal := false, tc.cmd.op := .acq, tc.cmd.t0 := s.nowUs }) ∧
      (s.tc.rcv.internal = false →
        stepRule .recover s = .next
          { t with
            tc.cmd.result := BitVec.ofNat 32 (s.tc.rcv.k % 16 + 256 * (!s.tc.port.sda).toNat)
            tc.cmd.busy := false
            tc.cmd.op := .none }))

/-- 41 R148 (a), (b): every START is issued on a free bus the TC does not hold, every repeated START while the TC
holds the bus; no command issues either. -/
def Obligations.StartOnlyOnFreeBus : Prop :=
  (∀ (m : BusMove) (s t : State), busMove m s = .next t →
    ∃ l, t.tc.link.sent = s.tc.link.sent ++ l ∧
      (PortCmd.start ∈ l → s.tc.port.linkBusy = false ∧ s.tc.xfer.masterHeld = false) ∧
      (PortCmd.rstart ∈ l → s.tc.xfer.masterHeld = true)) ∧
  (∀ (i : Instr) (s t : State), exec i s = .next t →
    ∃ l, t.tc.link.sent = s.tc.link.sent ++ l ∧ PortCmd.start ∉ l ∧ PortCmd.rstart ∉ l)

/-- 43 R196: when the timeout is applied, and that it only arms the flag and counts. -/
def Obligations.TimeoutApplication : Prop :=
  ∀ s : State,
    let due :=
      s.tc.cmd.busy = true ∧ (s.tc.cmd.op = .xfer ∨ s.tc.cmd.op = .await) ∧
      s.tc.xfer.status ∈ [.sending, .sendAddr, .receiving] ∧ s.tc.cmd.budget ≠ 0 ∧
      s.tc.cmd.budget.toNat ≤ (s.nowUs - s.tc.cmd.t0).toNat ∧ s.tc.xfer.toApplied = false
    (due → stepRule .timeout s = .next
      (errinc .timeout { s with tc.xfer.toApplied := true, tc.xfer.toFlag := true })) ∧
    (¬ due → stepRule .timeout s = .refused (.notEnabled .timeout))

/-! ### Byte completions of a master transfer -/

/-- 42 R169 to R174, R177: the transmit completion step, its guard and its checks in order. -/
def Obligations.TransmitCompletion : Prop :=
  ∀ s : State,
    (ruleEnabled .txDone s = true ↔
      s.tc.xfer.status = .sending ∧ (∃ a n, s.tc.port.lev = some (.tc a n)) ∧ s.tc.xfer.dmaPhase ≠ .bulk ∧
        transferClass s = true) ∧
    ∀ arbl rxak : Bool, ruleEnabled .txDone s = true → s.tc.port.lev = some (.tc arbl rxak) →
      let s1 : State := { s with tc.port.lev := none }
      let stopped (st : Status) (t : State) : State :=
        finalize (raiseEv .err { emit .stop { t with tc.xfer.status := st } with tc.xfer.masterHeld := false })
      (arbl = true →
        stepRule .txDone s = .next (finalize (raiseEv .err (errinc .arbLost
          { s1 with tc.xfer.status := .arbitrationLost, tc.xfer.masterHeld := false })))) ∧
      (arbl = false → s.tc.xfer.toFlag = true → stepRule .txDone s = .next (stopped .timeout s1)) ∧
      (arbl = false → s.tc.xfer.toFlag = false → rxak = true →
        (s.tc.buf.txidx = 0 → stepRule .txDone s = .next (stopped .addrNak (errinc .addrNak s1))) ∧
        (s.tc.buf.txidx ≠ 0 → stepRule .txDone s = .next (stopped .dataNak (errinc .dataNak s1)))) ∧
      (arbl = false → s.tc.xfer.toFlag = false → rxak = false → s.tc.buf.txidx + 1 < s.tc.buf.txlen →
        (s.tc.xfer.dmaPhase = .addr ∧ s.tc.buf.txidx = 1 →
          stepRule .txDone s = .next (emit .dmaEnable { s1 with tc.xfer.dmaPhase := .bulk })) ∧
        (¬ (s.tc.xfer.dmaPhase = .addr ∧ s.tc.buf.txidx = 1) →
          ∀ b : Byte, s.tc.buf.txbuf.read (s.tc.buf.txidx + 1) = some b →
            stepRule .txDone s = .next (emit (.write b) { s1 with tc.buf.txidx := s.tc.buf.txidx + 1 }))) ∧
      (arbl = false → s.tc.xfer.toFlag = false → rxak = false → s.tc.buf.txlen ≤ s.tc.buf.txidx + 1 →
        let s2 : State := { s1 with tc.xfer.status := .waiting }
        let s3 : State := if s.tc.xfer.stopReq then { emit .stop s2 with tc.xfer.masterHeld := false } else s2
        stepRule .txDone s = .next
          (finalize (if s.tc.xfer.eff = .immediate then s3 else raiseEv .mtxDone s3)))

/-- 42 R175: what Finalize does. -/
def Obligations.FinalizeEffect : Prop :=
  ∀ s : State,
    let s1 : State := if s.tc.xfer.dmaPhase = .off then s else emit .dmaClear (emit .dmaDisable s)
    let s2 : State := { s1 with tc.xfer.dmaPhase := .off, tc.xfer.toFlag := false, tc.xfer.inflightNak := false }
    (s.tc.cmd.busy = true ∧ (s.tc.cmd.op = .xfer ∨ s.tc.cmd.op = .await) →
      finalize s = { s2 with tc.cmd.result := errCode s, tc.cmd.busy := false, tc.cmd.op := .none }) ∧
    (¬ (s.tc.cmd.busy = true ∧ (s.tc.cmd.op = .xfer ∨ s.tc.cmd.op = .await)) → finalize s = s2)

/-- A DMA command acts on the DMA agent as 44 R220 says; the link commands of 30 R105 change no element of the spec.
The model's own bookkeeping: every command is added to the trace (log 9, DESIGN CHOICE), a byte given to the link is
noted (log 7, DEDUCED), and an L_WRITE ends the link's stretch (log 8, DEDUCED). -/
def Obligations.PortCommandEffects : Prop :=
  ∀ s : State,
    let sent (c : PortCmd) : State := { s with tc.link.sent := s.tc.link.sent ++ [c] }
    (∀ (dir : DmaDir) (first count : Nat),
      emit (.dmaProgram dir first count) s =
        { sent (.dmaProgram dir first count) with
          tc.dma :=
            { dir := dir, next := first, last := first + count - 1, enabled := false, ready := false,
              pending := false } }) ∧
    emit .dmaEnable s = { sent .dmaEnable with tc.dma.enabled := true, tc.dma.ready := true } ∧
    emit .dmaDisable s = { sent .dmaDisable with tc.dma.enabled := false } ∧
    emit .dmaClear s = { sent .dmaClear with tc.port.dev := none } ∧
    (∀ b : Byte, s.tc.cfg.mode = .master →
      emit (.write b) s =
        { sent (.write b) with tc.link.issued := s.tc.link.issued ++ [.write], tc.link.stretched := false }) ∧
    (∀ b : Byte, s.tc.cfg.mode = .slave →
      emit (.write b) s = { sent (.write b) with tc.link.slaveByte := true, tc.link.stretched := false }) ∧
    (∀ n : Bool, emit (.recv n) s = { sent (.recv n) with tc.link.issued := s.tc.link.issued ++ [.recv] }) ∧
    (∀ c : PortCmd, c ∈ [.start, .rstart, .stop, .sclLow, .sclRelease, .sdaRelease] → emit c s = sent c) ∧
    (∀ code : Word, emit (.rate code) s = sent (.rate code)) ∧
    (∀ g : Bool, emit (.pins g) s = sent (.pins g))

/-- 43 R199: the address-phase completion, its guard and its checks in order. -/
def Obligations.AddressPhaseCompletion : Prop :=
  ∀ s : State,
    (ruleEnabled .addrDone s = true ↔
      s.tc.xfer.status = .sendAddr ∧ (∃ a n, s.tc.port.lev = some (.tc a n)) ∧ transferClass s = true) ∧
    ∀ arbl rxak : Bool, ruleEnabled .addrDone s = true → s.tc.port.lev = some (.tc arbl rxak) →
      let s1 : State := { s with tc.port.lev := none }
      let stopped (st : Status) (t : State) : State :=
        finalize (raiseEv .err { emit .stop { t with tc.xfer.status := st } with tc.xfer.masterHeld := false })
      (arbl = true →
        stepRule .addrDone s = .next (finalize (raiseEv .err (errinc .arbLost
          { s1 with tc.xfer.status := .arbitrationLost, tc.xfer.masterHeld := false })))) ∧
      (arbl = false → rxak = true →
        (s.tc.xfer.toFlag = true → stepRule .addrDone s = .next (stopped .timeout s1)) ∧
        (s.tc.xfer.toFlag = false → stepRule .addrDone s = .next (stopped .addrNak (errinc .addrNak s1)))) ∧
      (arbl = false → rxak = false → s.tc.xfer.toFlag = true →
        let s2 : State := if s.tc.xfer.dmaPhase = .off then s1 else emit .dmaClear (emit .dmaDisable s1)
        stepRule .addrDone s = .next (emit (.recv true)
          { s2 with tc.xfer.dmaPhase := .off, tc.xfer.status := .receiving, tc.xfer.inflightNak := true })) ∧
      (arbl = false → rxak = false → s.tc.xfer.toFlag = false →
        (s.tc.xfer.dmaPhase = .addr →
          stepRule .addrDone s = .next
            (emit .dmaEnable { s1 with tc.xfer.status := .receiving, tc.xfer.dmaPhase := .bulk })) ∧
        (s.tc.xfer.dmaPhase ≠ .addr →
          stepRule .addrDone s = .next (emit (.recv (decide (s.tc.buf.rxreq = 1)))
            { s1 with tc.xfer.status := .receiving, tc.xfer.inflightNak := decide (s.tc.buf.rxreq = 1) })))

/-- 43 R200, R201: a received byte, not the last (rxByte) or the last (rxFinal), while the receive buffer has
room. -/
def Obligations.ReceiveCompletion : Prop :=
  ∀ s : State,
    (ruleEnabled .rxByte s = true ↔
      s.tc.xfer.status = .receiving ∧ (∃ a d, s.tc.port.lev = some (.rc a d)) ∧
        s.tc.xfer.inflightNak = false ∧ s.tc.xfer.dmaPhase = .off ∧ transferClass s = true) ∧
    (ruleEnabled .rxFinal s = true ↔
      s.tc.xfer.status = .receiving ∧ (∃ a d, s.tc.port.lev = some (.rc a d)) ∧
        s.tc.xfer.inflightNak = true ∧ (s.tc.xfer.dmaPhase = .off ∨ s.tc.xfer.dmaPhase = .last) ∧
        transferClass s = true) ∧
    ∀ (arbl : Bool) (d : Byte), s.tc.port.lev = some (.rc arbl d) → s.tc.buf.rxlen < s.par.rxCap →
      let s1 : State := { s with tc.port.lev := none }
      let lost : State := finalize (raiseEv .err (errinc .arbLost
        { s1 with tc.xfer.status := .arbitrationLost, tc.xfer.masterHeld := false }))
      let stored : State :=
        { s1 with
          tc.buf.rxbuf := s.tc.buf.rxbuf.write s.tc.buf.rxlen d
          tc.buf.rxlen := s.tc.buf.rxlen + 1 }
      (ruleEnabled .rxByte s = true →
        (arbl = true → stepRule .rxByte s = .next lost) ∧
        (arbl = false →
          let nak := decide (s.tc.buf.rxlen + 1 = s.tc.buf.rxreq.toNat - 1 ∧ 1 ≤ s.tc.buf.rxreq.toNat) ||
            s.tc.xfer.toFlag
          stepRule .rxByte s = .next (emit (.recv nak) { stored with tc.xfer.inflightNak := nak }))) ∧
      (ruleEnabled .rxFinal s = true →
        (arbl = true → stepRule .rxFinal s = .next lost) ∧
        (arbl = false → s.tc.xfer.toFlag = true →
          stepRule .rxFinal s = .next (finalize (raiseEv .err
            { emit .stop { stored with tc.xfer.status := .timeout } with tc.xfer.masterHeld := false }))) ∧
        (arbl = false → s.tc.xfer.toFlag = false →
          let t1 : State := { stored with tc.xfer.status := .waiting }
          let t2 : State := if s.tc.xfer.stopReq then { emit .stop t1 with tc.xfer.masterHeld := false } else t1
          stepRule .rxFinal s = .next
            (finalize (if s.tc.xfer.eff = .immediate then t2 else raiseEv .mrxDone t2))))

/-- 42 R176 (c), (d): an ending of a transmit issues one STOP, but none after arbitration loss or after a success
with `stop_req = 0`; the bus stays held only after such a success. -/
def Obligations.StopAtTransmitEnd : Prop :=
  ∀ s t : State, stepRule .txDone s = .next t → masterActive t = false →
    ∃ l, t.tc.link.sent = s.tc.link.sent ++ l ∧
      l.count .stop =
        (if t.tc.xfer.status = .arbitrationLost ∨ (t.tc.xfer.status = .waiting ∧ s.tc.xfer.stopReq = false)
          then 0 else 1) ∧
      (t.tc.xfer.masterHeld = true → t.tc.xfer.status = .waiting ∧ s.tc.xfer.stopReq = false) ∧
      (t.tc.xfer.status = .waiting → s.tc.xfer.stopReq = false → t.tc.xfer.masterHeld = s.tc.xfer.masterHeld)

/-- 46 R286: a rule that ends a transfer or an acquisition in one of the six faults raises EV_ERR, and no other
rule does. -/
def Obligations.ErrorEventWithFault : Prop :=
  ∀ (r : Rule) (s t : State), stepRule r s = .next t →
    let faults : List Status := [.timeout, .addrNak, .dataNak, .arbitrationLost, .busNotAcquired, .dmaError]
    (t.tc.xfer.status ∈ faults → t.tc.xfer.status ≠ s.tc.xfer.status → s.tc.cfg.irqEn.getLsbD 4 = true →
      t.tc.ev.irqPend.getLsbD 4 = true) ∧
    (t.tc.ev.irqPend.getLsbD 4 = true → s.tc.ev.irqPend.getLsbD 4 = false → t.tc.xfer.status ∈ faults)

/-! ### The DMA hand-off -/

/-- 44 R225 to R228: the rules of the Bulk phase, DMA_DONE, DMA_ERR and the stale events: the guard of each, and its
effect. The discard of a stale event is the spec's own inference (44 R228, a model-only step by 92 D47) and log 18,
DEDUCED. -/
def Obligations.DmaEvents : Prop :=
  ∀ s : State,
    let granted : Prop := s.hostPrio < s.tc.cfg.irqPrio
    let arbLost : Prop := (∃ n, s.tc.port.lev = some (.tc true n)) ∨ (∃ d, s.tc.port.lev = some (.rc true d))
    (ruleEnabled .bulkError s = true ↔
      granted ∧ s.tc.xfer.dmaPhase = .bulk ∧ s.tc.xfer.status ∈ [.sending, .sendAddr, .receiving] ∧
        (arbLost ∨ s.tc.port.lev = some (.tc false true))) ∧
    (ruleEnabled .dmaDone s = true ↔
      granted ∧ s.tc.xfer.dmaPhase = .bulk ∧ s.tc.port.dev = some .done) ∧
    (ruleEnabled .dmaError s = true ↔
      granted ∧ s.tc.xfer.dmaPhase ≠ .off ∧ s.tc.port.dev = some .err) ∧
    (ruleEnabled .dmaStale s = true ↔
      granted ∧ ((s.tc.port.dev ≠ none ∧ s.tc.xfer.dmaPhase = .off) ∨
        (s.tc.port.dev = some .done ∧ (s.tc.xfer.dmaPhase = .addr ∨ s.tc.xfer.dmaPhase = .last)))) ∧
    let lost (t : State) : State := finalize (raiseEv .err (errinc .arbLost
      { t with tc.xfer.status := .arbitrationLost, tc.xfer.masterHeld := false }))
    let stopped (st : Status) (t : State) : State :=
      finalize (raiseEv .err { emit .stop { t with tc.xfer.status := st } with tc.xfer.masterHeld := false })
    let noLev : State := { s with tc.port.lev := none }
    let noDev : State := { s with tc.port.dev := none }
    (ruleEnabled .bulkError s = true →
      (arbLost → stepRule .bulkError s = .next (lost noLev)) ∧
      (s.tc.port.lev = some (.tc false true) → s.tc.xfer.toFlag = true →
        stepRule .bulkError s = .next (stopped .timeout noLev)) ∧
      (s.tc.port.lev = some (.tc false true) → s.tc.xfer.toFlag = false →
        stepRule .bulkError s = .next (stopped .dataNak (errinc .dataNak noLev)))) ∧
    (ruleEnabled .dmaDone s = true →
      let t : State := { emit .dmaDisable noDev with tc.xfer.dmaPhase := .last }
      (s.tc.cmd.kind = .tx →
        stepRule .dmaDone s = .next { t with tc.buf.txidx := s.tc.buf.txlen - 2 }) ∧
      (s.tc.cmd.kind = .rx →
        stepRule .dmaDone s = .next (emit (.recv true) { t with tc.xfer.inflightNak := true }))) ∧
    (ruleEnabled .dmaError s = true →
      (s.tc.port.linkArbl = true → stepRule .dmaError s = .next (lost noDev)) ∧
      (s.tc.port.linkArbl = false →
        stepRule .dmaError s = .next (stopped .dmaError (errinc .dmaErr noDev)))) ∧
    (ruleEnabled .dmaStale s = true → stepRule .dmaStale s = .next noDev)

/-- 44 R221: the steps of the DMA agent and the routing of clean completions to it, inside the buffers and with
`dev` empty where an event is placed; a disabled agent takes no step. -/
def Obligations.DmaAgentSteps : Prop :=
  ∀ s : State,
    (s.tc.dma.enabled = false → ∀ d : DmaStep, dmaAgent d s = .refused (.outsideContract .noDmaStep)) ∧
    (∀ b : Byte, s.tc.dma.enabled = true → s.tc.dma.dir = .tx → s.tc.dma.ready = true →
      s.tc.dma.next ≤ s.tc.dma.last → s.tc.port.dev = none → s.tc.buf.txbuf.read s.tc.dma.next = some b →
      dmaAgent .txElement s = .next
        { emit (.write b) s with
          tc.dma.next := s.tc.dma.next + 1
          tc.dma.ready := false
          tc.port.dev := if s.tc.dma.next = s.tc.dma.last then some .done else s.tc.port.dev }) ∧
    (s.tc.dma.enabled = true → s.tc.dma.dir = .rx → s.tc.dma.ready = true → s.tc.dma.pending = false →
      s.tc.dma.next ≤ s.tc.dma.last →
      dmaAgent .rxIssue s = .next
        { emit (.recv false) s with tc.dma.ready := false, tc.dma.pending := true }) ∧
    (s.tc.dma.enabled = true → s.tc.dma.dir = .tx → s.tc.dma.ready = true →
      s.tc.dma.next ≤ s.tc.dma.last → s.tc.port.dev = none →
      dmaAgent .error s = .next { s with tc.port.dev := some .err, tc.dma.enabled := false }) ∧
    (s.tc.dma.enabled = true → s.tc.dma.dir = .rx → s.tc.dma.ready = true → s.tc.dma.pending = false →
      s.tc.dma.next ≤ s.tc.dma.last → s.tc.port.dev = none →
      dmaAgent .error s = .next { s with tc.port.dev := some .err, tc.dma.enabled := false }) ∧
    (∀ rest : List Issued, s.tc.rcv.pinsGpio = false → s.tc.link.issued = .write :: rest →
      s.tc.dma.enabled = true → s.tc.dma.dir = .tx → s.tc.dma.next ≤ s.tc.dma.last →
      deliver (.tc false false) s = .next { s with tc.link.issued := rest, tc.dma.ready := true }) ∧
    (∀ (d : Byte) (rest : List Issued), s.tc.rcv.pinsGpio = false → s.tc.link.issued = .recv :: rest →
      s.tc.dma.enabled = true → s.tc.dma.dir = .rx → s.tc.dma.pending = true →
      s.tc.dma.next ≤ s.tc.dma.last → s.tc.dma.next < s.par.rxCap → s.tc.buf.rxlen < s.par.rxCap →
      s.tc.port.dev = none →
      deliver (.rc false d) s = .next
        { s with
          tc.link.issued := rest
          tc.buf.rxbuf := s.tc.buf.rxbuf.write s.tc.dma.next d
          tc.buf.rxlen := s.tc.buf.rxlen + 1
          tc.dma.next := s.tc.dma.next + 1
          tc.dma.pending := false
          tc.dma.ready := if s.tc.dma.next = s.tc.dma.last then s.tc.dma.ready else true
          tc.port.dev := if s.tc.dma.next = s.tc.dma.last then some .done else s.tc.port.dev })

/-- 44 R231: the phase transitions, in a state that meets the invariants. -/
def Obligations.DmaPhaseTransitions : Prop :=
  (∀ (r : Rule) (s t : State), TcInv s.par s.tc → TransferInv s.tc → stepRule r s = .next t →
    t.tc.xfer.dmaPhase = s.tc.xfer.dmaPhase ∨ t.tc.xfer.dmaPhase = .off ∨
    (s.tc.xfer.dmaPhase = .off ∧ t.tc.xfer.dmaPhase = .addr ∧ r = .acquire ∧ s.tc.xfer.eff = .dma) ∨
    (s.tc.xfer.dmaPhase = .addr ∧ t.tc.xfer.dmaPhase = .bulk ∧ (r = .txDone ∨ r = .addrDone) ∧
      s.tc.xfer.toFlag = false) ∨
    (s.tc.xfer.dmaPhase = .bulk ∧ t.tc.xfer.dmaPhase = .last ∧ r = .dmaDone)) ∧
  (∀ (i : Instr) (s t : State), exec i s = .next t →
    t.tc.xfer.dmaPhase = s.tc.xfer.dmaPhase ∨ (i = .configure ∧ t.tc.xfer.dmaPhase = .off))

/-! ### The link and the slave dispatcher -/

/-- What the model's LINK delivers, under 30 R107 (a) to (c), (f) to (h), (j) and 45 R241, and that it delivers every
event inside the contract; the bus-busy flag takes any value at any moment (30 R106, 93 U15). The model's own: a
completion answers the oldest byte noted as issued, and an STX a byte noted as given as slave (log 7, DEDUCED); no slave
event, a STOPF among them, comes during a hold or while the link stretches SCL (log 8, DEDUCED). -/
def Obligations.LinkContractKept : Prop :=
  (∀ (s : State) (a : Addr7), addrMatches s a = true ↔
    if s.tc.cfg.rangeEn = true then
      min s.tc.cfg.addr1.toNat s.tc.cfg.addr2.toNat ≤ a.toNat ∧
        a.toNat ≤ max s.tc.cfg.addr1.toNat s.tc.cfg.addr2.toNat
    else a = s.tc.cfg.addr1) ∧
  (∀ (ev : LinkEv) (s t : State), deliver ev s = .next t →
    s.tc.rcv.pinsGpio = false ∧
    ((s.tc.port.lev = none ∧ t.tc.port.lev = some ev) ∨
      (t.tc.port.lev = s.tc.port.lev ∧ s.tc.dma.enabled = true ∧
        (ev = .tc false false ∨ ∃ d, ev = .rc false d))) ∧
    (∀ a n, ev = .tc a n → s.tc.link.issued = .write :: t.tc.link.issued) ∧
    (∀ a d, ev = .rc a d → s.tc.link.issued = .recv :: t.tc.link.issued) ∧
    (isSlaveEvent ev = true →
      s.tc.cfg.mode = .slave ∧ s.tc.slave.hold = .none ∧ s.tc.link.stretched = false) ∧
    (∀ a rw, ev = .addr a rw → addrMatches s a = true ∧ t.tc.link.stretched = rw) ∧
    (∀ ack, ev = .stx ack →
      s.tc.link.slaveByte = true ∧ t.tc.link.slaveByte = false ∧ t.tc.link.stretched = ack) ∧
    (ev = .stopf → s.par.hasStopf = true)) ∧
  (∀ s : State, s.tc.rcv.pinsGpio = false → s.tc.port.lev = none →
    let placed (ev : LinkEv) : State := { s with tc.port.lev := some ev }
    (∀ (a n : Bool) (rest : List Issued), s.tc.link.issued = .write :: rest →
      a = true ∨ n = true ∨ s.tc.dma.enabled = false ∨ s.tc.dma.dir = .rx ∨ s.tc.dma.last < s.tc.dma.next →
      deliver (.tc a n) s = .next { placed (.tc a n) with tc.link.issued := rest }) ∧
    (∀ (a : Bool) (d : Byte) (rest : List Issued), s.tc.link.issued = .recv :: rest →
      a = true ∨ s.tc.dma.enabled = false ∨ s.tc.dma.dir = .tx ∨ s.tc.dma.pending = false →
      deliver (.rc a d) s = .next { placed (.rc a d) with tc.link.issued := rest }) ∧
    (s.tc.cfg.mode = .slave → s.tc.slave.hold = .none → s.tc.link.stretched = false →
      (∀ (a : Addr7) (rw : Bool), addrMatches s a = true →
        deliver (.addr a rw) s = .next { placed (.addr a rw) with tc.link.stretched := rw }) ∧
      (∀ d : Byte, deliver (.srx d) s = .next (placed (.srx d))) ∧
      (∀ ack : Bool, s.tc.link.slaveByte = true →
        deliver (.stx ack) s =
          .next { placed (.stx ack) with tc.link.slaveByte := false, tc.link.stretched := ack }) ∧
      (s.par.hasStopf = true → deliver .stopf s = .next (placed .stopf)))) ∧
  ∀ (b : Bool) (s : State), busMove (.linkBusy b) s = .next { s with tc.port.linkBusy := b }

/-- 45 R242, R244 to R247: the two steps of an address match, their guards and their effects, in either mode. -/
def Obligations.SlaveAddressRules : Prop :=
  (∀ s : State,
    let serves : Prop := s.hostPrio < s.tc.cfg.irqPrio ∧ s.tc.slave.hold = .none
    let addressed : Prop := ∃ a rw, s.tc.port.lev = some (.addr a rw)
    (ruleEnabled .boundary s = true ↔
      serves ∧ addressed ∧ s.tc.xfer.status = .slaveRx ∧ s.tc.slave.boundaryDone = false) ∧
    (ruleEnabled .dispatch s = true ↔
      serves ∧ addressed ∧ (s.tc.xfer.status ≠ .slaveRx ∨ s.tc.slave.boundaryDone = true))) ∧
  ∀ (s : State) (a : Addr7) (rw : Bool), s.hostPrio < s.tc.cfg.irqPrio → s.tc.slave.hold = .none →
    s.tc.port.lev = some (.addr a rw) →
    (s.tc.xfer.status = .slaveRx → s.tc.slave.boundaryDone = false →
      stepRule .boundary s = .next
        { raiseEv .srxDone s with
          tc.slave.srxCount := BitVec.ofNat 32 s.tc.buf.rxlen
          tc.slave.boundaryDone := true
          tc.slave.watchArmed := false
          tc.slave.hold := if s.tc.cfg.irqEn.getLsbD 0 then .srx else .none
          tc.port.sdaRise := false } ∧
      stepRule .dispatch s = .refused (.notEnabled .dispatch)) ∧
    (s.tc.xfer.status ≠ .slaveRx ∨ s.tc.slave.boundaryDone = true →
      stepRule .boundary s = .refused (.notEnabled .boundary) ∧
      let s1 : State :=
        { s with tc.port.lev := none, tc.slave.boundaryDone := false, tc.slave.rxaddr := a }
      (rw = false → s.par.hasStopf = true →
        stepRule .dispatch s = .next
          { s1 with tc.xfer.status := .slaveRx, tc.buf.rxlen := 0, tc.buf.rxidx := 0 }) ∧
      (rw = false → s.par.hasStopf = false →
        stepRule .dispatch s = .next
          { s1 with
            tc.xfer.status := .slaveRx, tc.buf.rxlen := 0, tc.buf.rxidx := 0,
            tc.slave.watchArmed := true, tc.slave.spuriousCnt := 0, tc.port.sdaRise := false }) ∧
      (rw = true →
        let s2 : State :=
          raiseEv .sreq
            { s1 with tc.xfer.status := .slaveTx, tc.buf.txlen := 0, tc.buf.txidx := 0, tc.xfer.ovf := false }
        (s.tc.cfg.irqEn.getLsbD 1 = true → stepRule .dispatch s = .next { s2 with tc.slave.hold := .sreq }) ∧
        (s.tc.cfg.irqEn.getLsbD 1 = false → stepRule .dispatch s = .next (emit (.write 0) s2))))

/-- 45 R248, R249, R251, R252, R253: data, stop and unexpected events: the guard of each rule, and its effect. That R252
needs no hold is the model's reading of R243 (log 14, DEDUCED). The discard of an unexpected event is the spec's own
inference (45 R253, a model-only step by 92) and log 18, DEDUCED. -/
def Obligations.SlaveDataAndStop : Prop :=
  ∀ s : State,
    let serves : Prop := s.hostPrio < s.tc.cfg.irqPrio ∧ s.tc.slave.hold = .none
    let unexpected : Prop :=
      ((∃ d, s.tc.port.lev = some (.srx d)) ∧ s.tc.xfer.status ≠ .slaveRx) ∨
      ((∃ ack, s.tc.port.lev = some (.stx ack)) ∧ s.tc.xfer.status ≠ .slaveTx) ∨
      (((∃ a n, s.tc.port.lev = some (.tc a n)) ∨ (∃ a d, s.tc.port.lev = some (.rc a d))) ∧
        s.tc.xfer.status ∉ [.sending, .sendAddr, .receiving])
    (ruleEnabled .slaveRx s = true ↔
      serves ∧ (∃ d, s.tc.port.lev = some (.srx d)) ∧ s.tc.xfer.status = .slaveRx) ∧
    (ruleEnabled .slaveTx s = true ↔
      serves ∧ (∃ ack, s.tc.port.lev = some (.stx ack)) ∧ s.tc.xfer.status = .slaveTx) ∧
    (ruleEnabled .stopDetect s = true ↔ serves ∧ s.tc.port.lev = some .stopf) ∧
    (ruleEnabled .sdaEdge s = true ↔ serves ∧ s.tc.port.sdaRise = true) ∧
    (ruleEnabled .unexpected s = true ↔ serves ∧ unexpected) ∧
    (serves →
      let noLev : State := { s with tc.port.lev := none }
      let ended (t : State) : State :=
        { raiseEv .srxDone t with
          tc.slave.srxCount := BitVec.ofNat 32 s.tc.buf.rxlen
          tc.xfer.status := .waiting
          tc.slave.watchArmed := false
          tc.slave.hold := if s.tc.cfg.irqEn.getLsbD 0 then .srx else .none
          tc.port.sdaRise := false }
      (∀ d : Byte, s.tc.port.lev = some (.srx d) → s.tc.xfer.status = .slaveRx →
        (s.tc.buf.rxlen < s.par.rxCap →
          stepRule .slaveRx s = .next
            { noLev with
              tc.buf.rxbuf := s.tc.buf.rxbuf.write s.tc.buf.rxlen d
              tc.buf.rxlen := s.tc.buf.rxlen + 1 }) ∧
        (s.par.rxCap ≤ s.tc.buf.rxlen → stepRule .slaveRx s = .next noLev)) ∧
      (s.tc.port.lev = some (.stx true) → s.tc.xfer.status = .slaveTx →
        let i := min (s.tc.buf.txidx + 1) s.tc.buf.txlen
        (∀ b : Byte, i < s.tc.buf.txlen → s.tc.buf.txbuf.read i = some b →
          stepRule .slaveTx s = .next (emit (.write b) { noLev with tc.buf.txidx := i })) ∧
        (s.tc.buf.txlen ≤ i →
          stepRule .slaveTx s = .next (emit (.write 0) { noLev with tc.buf.txidx := i }))) ∧
      (s.tc.port.lev = some (.stx false) → s.tc.xfer.status = .slaveTx →
        stepRule .slaveTx s = .next { noLev with tc.xfer.status := .waiting }) ∧
      (s.tc.port.lev = some .stopf →
        (s.tc.xfer.status = .slaveRx → stepRule .stopDetect s = .next (ended noLev)) ∧
        (s.tc.xfer.status = .slaveTx → stepRule .stopDetect s = .next { noLev with tc.xfer.status := .waiting }) ∧
        (s.tc.xfer.status ≠ .slaveRx → s.tc.xfer.status ≠ .slaveTx → stepRule .stopDetect s = .next noLev)) ∧
      (s.tc.port.sdaRise = true →
        let quiet : State := { s with tc.port.sdaRise := false }
        (s.tc.slave.watchArmed = false → stepRule .sdaEdge s = .next quiet) ∧
        (s.tc.slave.watchArmed = true → s.tc.port.linkBusy = false →
          stepRule .sdaEdge s = .next (ended quiet)) ∧
        (s.tc.slave.watchArmed = true → s.tc.port.linkBusy = true →
          let c := s.tc.slave.spuriousCnt + 1
          stepRule .sdaEdge s = .next
            { quiet with
              tc.slave.spuriousCnt := c
              tc.slave.watchArmed := decide (c.toNat < s.par.edgeLimit) })) ∧
      (unexpected → stepRule .unexpected s = .next noLev))

/-- 45 R243, R254 (c): during a hold no slave rule is enabled; a slave rule never changes a counter and never raises
EV_ERR. The model's own readings: the step on an SDA edge (R252) is one of the rules a hold stops (log 14, DEDUCED), and
no slave event, a STOPF among them, is delivered during a hold (log 8, DEDUCED). -/
def Obligations.HoldsAndSlaveErrors : Prop :=
  ∀ r : Rule, r ∈ [.boundary, .dispatch, .slaveRx, .slaveTx, .stopDetect, .sdaEdge, .unexpected] →
    (∀ s : State, s.tc.slave.hold ≠ .none →
      stepRule r s = .refused (.notEnabled r) ∧
      ∀ ev t, isSlaveEvent ev = true → deliver ev s ≠ .next t) ∧
    (∀ s t : State, stepRule r s = .next t →
      t.tc.err = s.tc.err ∧ t.tc.ev.irqPend.getLsbD 4 = s.tc.ev.irqPend.getLsbD 4)

/-! ### The whole machine -/

/-- 00 R6, 60 R305, 20 R70: no step changes a parameter or a base address. A step changes at most the instance its move
concerns: instance `n` for a move of the bus of `n`, the instance the address lies in for a host access, and none for a
host priority or for time; what the move does there is what it does with that instance in focus. -/
def Obligations.InstancesShareNoState : Prop :=
  (∀ s t : State, step s = .next t →
    t.par = s.par ∧ (instances t).map (fun c => c.base) = (instances s).map (fun c => c.base) ∧
    match (nextMove s).1 with
    | .bus n _ => t.before.length = n ∧ ∀ m : Nat, m ≠ n → (instances t)[m]? = (instances s)[m]?
    | .host a =>
      ∃ (u : State) (off : Nat), focusHost (accessAddr a) s = some (u, off) ∧ t.before.length = u.before.length ∧
        ∀ m : Nat, m ≠ u.before.length → (instances t)[m]? = (instances s)[m]?
    | .hostPrio _ => instances t = instances s
    | .time _ => instances t = instances s) ∧
  (∀ (n : Nat) (s u : State), focusAt n s = some u →
    u.before.length = n ∧ instances u = instances s ∧
    u = { s with before := u.before, tc := u.tc, after := u.after } ∧
    (∀ b : BusMove, move (.bus n b) s = busMove b u) ∧
    ∀ off : Nat, off < 0x100 → focusHost (.reg n off) s = some (u, off)) ∧
  ∀ (a off : Nat) (s u : State), focusHost (.abs a) s = some (u, off) →
    off < 0x100 ∧ a = u.tc.base + off ∧ instances u = instances s

/-- 70 R320: power-on reset gives every TC element its reset value and issues no command; the reset machine is such
an instance, its STATUS and CONFIG read 0x10 and its receive buffer is empty. The values of the ports' own state
are the model's choice (log 4, log 5, log 6). -/
def Obligations.PowerOnReset : Prop :=
  (∀ s : State, ∃ t, busMove .powerOn s = .next t ∧ SameOutside s t ∧
    t.tc.cfg =
      { mode := .master, strategy := .immediate, autoRetry := false, prioChk := true, rangeEn := false,
        addr1 := 0, addr2 := 0, rate := s.par.rateReset, timeoutDefault := 0, dmaThresh := 5,
        irqPrio := min s.par.irqPrioReset s.par.prioMax, irqEn := 0, dmaAlloc := false } ∧
    t.tc.xfer =
      { status := .waiting, eff := .immediate, stopReq := false, masterHeld := false, dmaPhase := .off,
        toFlag := false, toApplied := false, inflightNak := false, ovf := false, rxTarget := 0 } ∧
    t.tc.buf = { txbuf := [], txlen := 0, txidx := 0, rxbuf := [], rxlen := 0, rxidx := 0, rxreq := 0 } ∧
    t.tc.cmd =
      { arg0 := 0, arg1 := 0, arg2 := 0, result := 0, busy := false, op := .none, kind := .tx,
        blocking := false, t0 := 0, budget := 0, acqRetried := false, reject := false, illegal := false } ∧
    t.tc.ev = { irqPend := 0, isrDepth := 0 } ∧
    t.tc.slave =
      { hold := .none, boundaryDone := false, rxaddr := 0, srxCount := 0, watchArmed := false,
        spuriousCnt := 0 } ∧
    t.tc.rcv =
      { step := .idle, t := 0, k := 0, internal := false, resultK := 0, stuck := false, pinsGpio := false } ∧
    (∀ k, errGet k t.tc.err = 0) ∧
    t.tc.link.sent = s.tc.link.sent) ∧
  (∀ (p : Params) (base : Nat) (s : State), s.par = p → s.tc = Tc.reset p base →
    hostRead 0x14 4 s = .next { s with rdata := some 0x00000010 } ∧
    hostRead 0x1C 4 s = .next { s with rdata := some 0x00000010 } ∧
    hostRead 0x2C 4 s = .next { s with rdata := some 5 } ∧
    hostRead 0x28 4 s = .next { s with rdata := some p.rateReset } ∧
    hostRead 0x44 4 s = .next { s with rdata := some 0xFFFFFFFF } ∧
    tcCanStep s = false) ∧
  (∀ t ∈ instances State.reset, ∃ base, t = Tc.reset State.reset.par base)

/-! ### Invariants -/

/-- The invariants (10 R26, R34, R35) hold at reset (70 R320). They rest on the model's choice of what the ports and
the DMA agent hold at reset (log 4 and log 5, DESIGN CHOICE). -/
def Obligations.InvAtReset : Prop :=
  FullInv State.reset ∧ NoStrayAddress State.reset ∧ BusyWhileAddressed State.reset

/-- 10 R26, R34 (c), (e), (f), R35 for the transmit buffer: every step keeps the bounds, the canonical buffers and
the command state, in any environment. -/
def Obligations.MachineInvKept : Prop :=
  ∀ s t : State, MachineInv s → step s = .next t → MachineInv t

/-- 10 R26 (the receive count), R34 (a), (b), (d), R35, 43 R202 (d): every step from a state in which no address match
waits in master mode keeps the invariants of transfers, holds and the DMA hand-off; and if in that state the bus is busy
wherever an address match waits, as 30 R107 (g) and 45 R255 have it, no address match waits in master mode after it. These
premises on the environment are the model's: with `link_busy` any value (93 U15) the invariants do not follow from the
rules of files 40 to 46, which 90 C9 makes the authority (log 15, DEDUCED). -/
def Obligations.FullInvKept : Prop :=
  ∀ s t : State, FullInv s → NoStrayAddress s → step s = .next t →
    FullInv t ∧ (BusyWhileAddressed s → NoStrayAddress t)

/-- 60 R292, 10 R35, R26: in a state that meets the invariants the only fault a step can raise is the host access
fault: no unwritten cell is read and no store falls outside a buffer. -/
def Obligations.OnlyFaultIsHostAccess : Prop :=
  ∀ s : State, FullInv s → FaultsOnlyOnAccess (step s)

/-! ### The end of a command and of a run -/

/-- 60 R313, R290, 30 R100: the four ways are distinct. A run ends in at most one way; at a completed end only TIMER
moves in the rest of the run, and no rule of the TC, no DMA step and no completion LINK owes is left in any instance; at
a stuck end the rest of the run is polls and time, its next step changes no instance, and no rule of the TC is enabled
however long TIMER runs; a run faults exactly at an access that is no aligned 32-bit one, with its offset. A
command that is illegal or rejected changes its sticky bit only, a refused one RESULT (and BufferOverflow in `status`)
only, and an accepted one neither bit. What counts as the host's waiting and as a withheld step is the model's reading
(log 19, DEDUCED); that a run with no poll left is completed also where a command can never end (log 20), and that
RESET_ERRCNT with an index of 7 or more counts as accepted (log 21), are its choices (DESIGN CHOICE). -/
def Obligations.EndsOfRunsAndCommands : Prop :=
  (∀ (e e' : RunEnd) (s : State), runEnds e s → runEnds e' s → e = e') ∧
  (∀ s : State, runEnds .completed s →
    (∀ m ∈ s.script, ∃ dt, m = .time dt) ∧
    ∀ (n : Nat) (t : State),
      (∀ r : Rule, move (.bus n (.rule r)) s ≠ .next t) ∧
      (∀ d : DmaStep, move (.bus n (.dma d)) s ≠ .next t) ∧
      (∀ b c : Bool, move (.bus n (.deliver (.tc b c))) s ≠ .next t) ∧
      (∀ (b : Bool) (d : Byte), move (.bus n (.deliver (.rc b d))) s ≠ .next t) ∧
      ∀ u : State, focusAt n s = some u → u.tc.link.slaveByte = false →
        ∀ b : Bool, move (.bus n (.deliver (.stx b))) s ≠ .next t) ∧
  (∀ s : State, runEnds .stuck s →
    s.script ≠ [] ∧ (∀ m ∈ s.script, (∃ a, m = .host (.read a 4)) ∨ ∃ dt, m = .time dt) ∧
    (∀ t : State, step s = .next t → instances t = instances s ∧ t.hostPrio = s.hostPrio) ∧
    ∀ (dt : Word) (n : Nat) (r : Rule) (t : State), move (.bus n (.rule r)) (afterTime dt s) ≠ .next t) ∧
  (∀ (n off size o : Nat) (a : Access) (rest : List Move) (s t : State), off < 0x100 → focusAt n s = some t →
    a = .read (.reg n off) size ∨ (∃ v, a = .write (.reg n off) size v) → s.script = .host a :: rest →
    (runEnds (.faulted o) s ↔ o = off ∧ (size ≠ 4 ∨ off % 4 ≠ 0))) ∧
  ∀ (w : Word) (s : State),
    (commandOutcome w s = .illegal → hostWrite 0x00 4 w s = .next { s with tc.cmd.illegal := true }) ∧
    (commandOutcome w s = .rejected → hostWrite 0x00 4 w s = .next { s with tc.cmd.reject := true }) ∧
    (commandOutcome w s = .refused →
      ∃ (st : Status) (v : Word),
        hostWrite 0x00 4 w s = .next { s with tc.xfer.status := st, tc.cmd.result := v } ∧
        (st = s.tc.xfer.status ∧ v = 0 ∨ st = .bufferOverflow ∧ v = 1)) ∧
    (commandOutcome w s = .accepted →
      ∀ t : State, hostWrite 0x00 4 w s = .next t →
        t.tc.cmd.reject = s.tc.cmd.reject ∧ t.tc.cmd.illegal = s.tc.cmd.illegal)
end

