-- ==== Sys2Proof/Laws/Memory.lean ====
section
/-!
SUPPORT. The laws of the buffer cells: a read after a write, and the canonical form every memory operation keeps.
-/

namespace Sys2Proof.Machine

/-- A cell reads as the byte written to it. -/
@[simp] theorem read_write_same (m : Memory) (i : Nat) (b : Byte) : (m.write i b).read i = some b := by
  induction m with
  | nil => simp [Memory.write, Memory.read]
  | cons c m ih =>
    obtain ⟨a, v⟩ := c
    simp only [Memory.write]
    split
    · simp [Memory.read]
    · split
      · simp [Memory.read]
      · next h1 h2 => simp [Memory.read, Ne.symm h2, ih]

/-- A write leaves every other cell alone. -/
theorem read_write_other (m : Memory) (i j : Nat) (b : Byte) (h : j ≠ i) : (m.write i b).read j = m.read j := by
  induction m with
  | nil => simp [Memory.write, Memory.read, h.symm]
  | cons c m ih =>
    obtain ⟨a, v⟩ := c
    simp only [Memory.write]
    split
    · simp [Memory.read, h.symm]
    · split
      · next h1 h2 => subst h2; simp [Memory.read, h.symm]
      · simp only [Memory.read]; split <;> simp [ih]

/-- A write never takes a value away. -/
theorem write_keeps_some (m : Memory) (i j : Nat) (b : Byte) (h : (m.read j).isSome = true) :
    ((m.write i b).read j).isSome = true := by
  by_cases hj : j = i
  · subst hj; simp
  · rw [read_write_other _ _ _ _ hj]; exact h

/-- The head of a written memory lies at the written index or at the old head. -/
theorem write_head (m : Memory) (i : Nat) (b : Byte) :
    ∃ c rest, m.write i b = c :: rest ∧ (c.1 = i ∨ ∃ d, m.head? = some d ∧ c.1 = d.1) := by
  cases m with
  | nil => exact ⟨(i, b), [], rfl, .inl rfl⟩
  | cons d m =>
    obtain ⟨a, v⟩ := d
    simp only [Memory.write]
    split
    · exact ⟨_, _, rfl, .inl rfl⟩
    · split
      · exact ⟨_, _, rfl, .inl rfl⟩
      · exact ⟨_, _, rfl, .inr ⟨(a, v), rfl, rfl⟩⟩

/-- Consing a smaller index on a canonical memory keeps the form. -/
theorem wf_cons (a : Nat) (v : Byte) (m : Memory) (hm : m.wf = true)
    (h : ∀ d, m.head? = some d → a < d.1) : Memory.wf ((a, v) :: m) = true := by
  cases m with
  | nil => rfl
  | cons d m => simp only [Memory.wf, Bool.and_eq_true, decide_eq_true_eq]; exact ⟨h d rfl, hm⟩

/-- The tail of a canonical memory is canonical, and its head lies above the old one. -/
theorem wf_tail (a : Nat) (v : Byte) (m : Memory) (h : Memory.wf ((a, v) :: m) = true) :
    m.wf = true ∧ ∀ d, m.head? = some d → a < d.1 := by
  cases m with
  | nil => exact ⟨rfl, by simp⟩
  | cons d m =>
    simp only [Memory.wf, Bool.and_eq_true, decide_eq_true_eq] at h
    refine ⟨h.2, fun e he => ?_⟩
    simp only [List.head?_cons, Option.some.injEq] at he
    subst he; exact h.1

/-- `Memory.write`, the only operation that changes a memory, keeps the canonical form. -/
theorem write_wf (m : Memory) (i : Nat) (b : Byte) (h : m.wf = true) : (m.write i b).wf = true := by
  induction m with
  | nil => rfl
  | cons c m ih =>
    obtain ⟨a, v⟩ := c
    obtain ⟨hm, hlt⟩ := wf_tail a v m h
    simp only [Memory.write]
    split
    · next h1 =>
      refine wf_cons _ _ _ h (fun d hd => ?_)
      simp only [List.head?_cons, Option.some.injEq] at hd
      subst hd; exact h1
    · split
      · next h1 h2 => subst h2; exact wf_cons _ _ _ hm hlt
      · next h1 h2 =>
        refine wf_cons _ _ _ (ih hm) (fun d hd => ?_)
        obtain ⟨c, rest, hw, hc⟩ := write_head m i b
        rw [hw, List.head?_cons, Option.some.injEq] at hd
        subst hd
        rcases hc with hc | ⟨d, hd, hc⟩
        · omega
        · rw [hc]; exact hlt d hd

/-- A write stays within a bound on the indexes. -/
theorem write_range (m : Memory) (i n : Nat) (b : Byte) (h : ∀ c ∈ m, c.1 < n) (hi : i < n) :
    ∀ c ∈ m.write i b, c.1 < n := by
  induction m with
  | nil => intro c hc; simp only [Memory.write, List.mem_singleton] at hc; subst hc; exact hi
  | cons d m ih =>
    obtain ⟨a, v⟩ := d
    have ha : a < n := h (a, v) (by simp)
    have hm : ∀ c ∈ m, c.1 < n := fun c hc => h c (by simp [hc])
    intro c hc
    simp only [Memory.write] at hc
    split at hc
    · simp only [List.mem_cons] at hc
      rcases hc with rfl | rfl | hc
      · exact hi
      · exact ha
      · exact hm c hc
    · split at hc
      · simp only [List.mem_cons] at hc
        rcases hc with rfl | hc
        · exact hi
        · exact hm c hc
      · simp only [List.mem_cons] at hc
        rcases hc with rfl | hc
        · exact ha
        · exact ih hm c hc

/-- Appending a cell at `n` extends a run of written cells (10 R35). -/
theorem cellsBelow_append (m : Memory) (n : Nat) (b : Byte) (h : CellsBelow m n) :
    CellsBelow (m.write n b) (n + 1) := by
  intro i hi
  by_cases hin : i = n
  · subst hin; simp
  · exact write_keeps_some _ _ _ _ (h i (by omega))

/-- A write anywhere keeps a run of written cells. -/
theorem cellsBelow_write (m : Memory) (n i : Nat) (b : Byte) (h : CellsBelow m n) :
    CellsBelow (m.write i b) n := fun j hj => write_keeps_some _ _ _ _ (h j hj)

/-- The memories of an instance after reset are canonical. -/
theorem reset_memory_wf (p : Params) (base : Nat) :
    (Tc.reset p base).buf.txbuf.wf = true ∧ (Tc.reset p base).buf.rxbuf.wf = true := ⟨rfl, rfl⟩

end Sys2Proof.Machine
end

