-- ==== Sys2Proof/Laws/State.lean ====
section
/-!
SUPPORT. What each shared operation leaves alone, field group by field group, so that no proof unfolds a record
update: `<operation>_<group>` says that the group is the one before.
-/

namespace Sys2Proof.Machine

/-! ### emit -/

@[simp] theorem emit_par (c : PortCmd) (s : State) : (emit c s).par = s.par := by
  cases c <;> first | rfl | (simp only [emit, portEffect]; split <;> rfl)

@[simp] theorem emit_before (c : PortCmd) (s : State) : (emit c s).before = s.before := by
  cases c <;> first | rfl | (simp only [emit, portEffect]; split <;> rfl)

@[simp] theorem emit_after (c : PortCmd) (s : State) : (emit c s).after = s.after := by
  cases c <;> first | rfl | (simp only [emit, portEffect]; split <;> rfl)

@[simp] theorem emit_hostPrio (c : PortCmd) (s : State) : (emit c s).hostPrio = s.hostPrio := by
  cases c <;> first | rfl | (simp only [emit, portEffect]; split <;> rfl)

@[simp] theorem emit_nowUs (c : PortCmd) (s : State) : (emit c s).nowUs = s.nowUs := by
  cases c <;> first | rfl | (simp only [emit, portEffect]; split <;> rfl)

@[simp] theorem emit_rdata (c : PortCmd) (s : State) : (emit c s).rdata = s.rdata := by
  cases c <;> first | rfl | (simp only [emit, portEffect]; split <;> rfl)

@[simp] theorem emit_script (c : PortCmd) (s : State) : (emit c s).script = s.script := by
  cases c <;> first | rfl | (simp only [emit, portEffect]; split <;> rfl)

@[simp] theorem emit_draws (c : PortCmd) (s : State) : (emit c s).draws = s.draws := by
  cases c <;> first | rfl | (simp only [emit, portEffect]; split <;> rfl)

@[simp] theorem emit_base (c : PortCmd) (s : State) : (emit c s).tc.base = s.tc.base := by
  cases c <;> first | rfl | (simp only [emit, portEffect]; split <;> rfl)

@[simp] theorem emit_cfg (c : PortCmd) (s : State) : (emit c s).tc.cfg = s.tc.cfg := by
  cases c <;> first | rfl | (simp only [emit, portEffect]; split <;> rfl)

@[simp] theorem emit_xfer (c : PortCmd) (s : State) : (emit c s).tc.xfer = s.tc.xfer := by
  cases c <;> first | rfl | (simp only [emit, portEffect]; split <;> rfl)

@[simp] theorem emit_buf (c : PortCmd) (s : State) : (emit c s).tc.buf = s.tc.buf := by
  cases c <;> first | rfl | (simp only [emit, portEffect]; split <;> rfl)

@[simp] theorem emit_cmd (c : PortCmd) (s : State) : (emit c s).tc.cmd = s.tc.cmd := by
  cases c <;> first | rfl | (simp only [emit, portEffect]; split <;> rfl)

@[simp] theorem emit_ev (c : PortCmd) (s : State) : (emit c s).tc.ev = s.tc.ev := by
  cases c <;> first | rfl | (simp only [emit, portEffect]; split <;> rfl)

@[simp] theorem emit_slave (c : PortCmd) (s : State) : (emit c s).tc.slave = s.tc.slave := by
  cases c <;> first | rfl | (simp only [emit, portEffect]; split <;> rfl)

@[simp] theorem emit_rcv (c : PortCmd) (s : State) : (emit c s).tc.rcv = s.tc.rcv := by
  cases c <;> first | rfl | (simp only [emit, portEffect]; split <;> rfl)

@[simp] theorem emit_err (c : PortCmd) (s : State) : (emit c s).tc.err = s.tc.err := by
  cases c <;> first | rfl | (simp only [emit, portEffect]; split <;> rfl)

/-! ### setResult -/

@[simp] theorem setResult_par (v : Word) (s : State) : (setResult v s).par = s.par := rfl

@[simp] theorem setResult_before (v : Word) (s : State) : (setResult v s).before = s.before := rfl

@[simp] theorem setResult_after (v : Word) (s : State) : (setResult v s).after = s.after := rfl

@[simp] theorem setResult_hostPrio (v : Word) (s : State) : (setResult v s).hostPrio = s.hostPrio := rfl

@[simp] theorem setResult_nowUs (v : Word) (s : State) : (setResult v s).nowUs = s.nowUs := rfl

@[simp] theorem setResult_rdata (v : Word) (s : State) : (setResult v s).rdata = s.rdata := rfl

@[simp] theorem setResult_script (v : Word) (s : State) : (setResult v s).script = s.script := rfl

@[simp] theorem setResult_draws (v : Word) (s : State) : (setResult v s).draws = s.draws := rfl

@[simp] theorem setResult_base (v : Word) (s : State) : (setResult v s).tc.base = s.tc.base := rfl

@[simp] theorem setResult_cfg (v : Word) (s : State) : (setResult v s).tc.cfg = s.tc.cfg := rfl

@[simp] theorem setResult_xfer (v : Word) (s : State) : (setResult v s).tc.xfer = s.tc.xfer := rfl

@[simp] theorem setResult_buf (v : Word) (s : State) : (setResult v s).tc.buf = s.tc.buf := rfl

@[simp] theorem setResult_ev (v : Word) (s : State) : (setResult v s).tc.ev = s.tc.ev := rfl

@[simp] theorem setResult_slave (v : Word) (s : State) : (setResult v s).tc.slave = s.tc.slave := rfl

@[simp] theorem setResult_rcv (v : Word) (s : State) : (setResult v s).tc.rcv = s.tc.rcv := rfl

@[simp] theorem setResult_err (v : Word) (s : State) : (setResult v s).tc.err = s.tc.err := rfl

@[simp] theorem setResult_port (v : Word) (s : State) : (setResult v s).tc.port = s.tc.port := rfl

@[simp] theorem setResult_dma (v : Word) (s : State) : (setResult v s).tc.dma = s.tc.dma := rfl

@[simp] theorem setResult_link (v : Word) (s : State) : (setResult v s).tc.link = s.tc.link := rfl

/-! ### rejectCmd -/

@[simp] theorem rejectCmd_par (s : State) : (rejectCmd s).par = s.par := rfl

@[simp] theorem rejectCmd_before (s : State) : (rejectCmd s).before = s.before := rfl

@[simp] theorem rejectCmd_after (s : State) : (rejectCmd s).after = s.after := rfl

@[simp] theorem rejectCmd_hostPrio (s : State) : (rejectCmd s).hostPrio = s.hostPrio := rfl

@[simp] theorem rejectCmd_nowUs (s : State) : (rejectCmd s).nowUs = s.nowUs := rfl

@[simp] theorem rejectCmd_rdata (s : State) : (rejectCmd s).rdata = s.rdata := rfl

@[simp] theorem rejectCmd_script (s : State) : (rejectCmd s).script = s.script := rfl

@[simp] theorem rejectCmd_draws (s : State) : (rejectCmd s).draws = s.draws := rfl

@[simp] theorem rejectCmd_base (s : State) : (rejectCmd s).tc.base = s.tc.base := rfl

@[simp] theorem rejectCmd_cfg (s : State) : (rejectCmd s).tc.cfg = s.tc.cfg := rfl

@[simp] theorem rejectCmd_xfer (s : State) : (rejectCmd s).tc.xfer = s.tc.xfer := rfl

@[simp] theorem rejectCmd_buf (s : State) : (rejectCmd s).tc.buf = s.tc.buf := rfl

@[simp] theorem rejectCmd_ev (s : State) : (rejectCmd s).tc.ev = s.tc.ev := rfl

@[simp] theorem rejectCmd_slave (s : State) : (rejectCmd s).tc.slave = s.tc.slave := rfl

@[simp] theorem rejectCmd_rcv (s : State) : (rejectCmd s).tc.rcv = s.tc.rcv := rfl

@[simp] theorem rejectCmd_err (s : State) : (rejectCmd s).tc.err = s.tc.err := rfl

@[simp] theorem rejectCmd_port (s : State) : (rejectCmd s).tc.port = s.tc.port := rfl

@[simp] theorem rejectCmd_dma (s : State) : (rejectCmd s).tc.dma = s.tc.dma := rfl

@[simp] theorem rejectCmd_link (s : State) : (rejectCmd s).tc.link = s.tc.link := rfl

/-! ### illegalCmd -/

@[simp] theorem illegalCmd_par (s : State) : (illegalCmd s).par = s.par := rfl

@[simp] theorem illegalCmd_before (s : State) : (illegalCmd s).before = s.before := rfl

@[simp] theorem illegalCmd_after (s : State) : (illegalCmd s).after = s.after := rfl

@[simp] theorem illegalCmd_hostPrio (s : State) : (illegalCmd s).hostPrio = s.hostPrio := rfl

@[simp] theorem illegalCmd_nowUs (s : State) : (illegalCmd s).nowUs = s.nowUs := rfl

@[simp] theorem illegalCmd_rdata (s : State) : (illegalCmd s).rdata = s.rdata := rfl

@[simp] theorem illegalCmd_script (s : State) : (illegalCmd s).script = s.script := rfl

@[simp] theorem illegalCmd_draws (s : State) : (illegalCmd s).draws = s.draws := rfl

@[simp] theorem illegalCmd_base (s : State) : (illegalCmd s).tc.base = s.tc.base := rfl

@[simp] theorem illegalCmd_cfg (s : State) : (illegalCmd s).tc.cfg = s.tc.cfg := rfl

@[simp] theorem illegalCmd_xfer (s : State) : (illegalCmd s).tc.xfer = s.tc.xfer := rfl

@[simp] theorem illegalCmd_buf (s : State) : (illegalCmd s).tc.buf = s.tc.buf := rfl

@[simp] theorem illegalCmd_ev (s : State) : (illegalCmd s).tc.ev = s.tc.ev := rfl

@[simp] theorem illegalCmd_slave (s : State) : (illegalCmd s).tc.slave = s.tc.slave := rfl

@[simp] theorem illegalCmd_rcv (s : State) : (illegalCmd s).tc.rcv = s.tc.rcv := rfl

@[simp] theorem illegalCmd_err (s : State) : (illegalCmd s).tc.err = s.tc.err := rfl

@[simp] theorem illegalCmd_port (s : State) : (illegalCmd s).tc.port = s.tc.port := rfl

@[simp] theorem illegalCmd_dma (s : State) : (illegalCmd s).tc.dma = s.tc.dma := rfl

@[simp] theorem illegalCmd_link (s : State) : (illegalCmd s).tc.link = s.tc.link := rfl

/-! ### completeCmd -/

@[simp] theorem completeCmd_par (v : Word) (s : State) : (completeCmd v s).par = s.par := rfl

@[simp] theorem completeCmd_before (v : Word) (s : State) : (completeCmd v s).before = s.before := rfl

@[simp] theorem completeCmd_after (v : Word) (s : State) : (completeCmd v s).after = s.after := rfl

@[simp] theorem completeCmd_hostPrio (v : Word) (s : State) : (completeCmd v s).hostPrio = s.hostPrio := rfl

@[simp] theorem completeCmd_nowUs (v : Word) (s : State) : (completeCmd v s).nowUs = s.nowUs := rfl

@[simp] theorem completeCmd_rdata (v : Word) (s : State) : (completeCmd v s).rdata = s.rdata := rfl

@[simp] theorem completeCmd_script (v : Word) (s : State) : (completeCmd v s).script = s.script := rfl

@[simp] theorem completeCmd_draws (v : Word) (s : State) : (completeCmd v s).draws = s.draws := rfl

@[simp] theorem completeCmd_base (v : Word) (s : State) : (completeCmd v s).tc.base = s.tc.base := rfl

@[simp] theorem completeCmd_cfg (v : Word) (s : State) : (completeCmd v s).tc.cfg = s.tc.cfg := rfl

@[simp] theorem completeCmd_xfer (v : Word) (s : State) : (completeCmd v s).tc.xfer = s.tc.xfer := rfl

@[simp] theorem completeCmd_buf (v : Word) (s : State) : (completeCmd v s).tc.buf = s.tc.buf := rfl

@[simp] theorem completeCmd_ev (v : Word) (s : State) : (completeCmd v s).tc.ev = s.tc.ev := rfl

@[simp] theorem completeCmd_slave (v : Word) (s : State) : (completeCmd v s).tc.slave = s.tc.slave := rfl

@[simp] theorem completeCmd_rcv (v : Word) (s : State) : (completeCmd v s).tc.rcv = s.tc.rcv := rfl

@[simp] theorem completeCmd_err (v : Word) (s : State) : (completeCmd v s).tc.err = s.tc.err := rfl

@[simp] theorem completeCmd_port (v : Word) (s : State) : (completeCmd v s).tc.port = s.tc.port := rfl

@[simp] theorem completeCmd_dma (v : Word) (s : State) : (completeCmd v s).tc.dma = s.tc.dma := rfl

@[simp] theorem completeCmd_link (v : Word) (s : State) : (completeCmd v s).tc.link = s.tc.link := rfl

/-! ### errinc -/

@[simp] theorem errinc_par (k : ErrCat) (s : State) : (errinc k s).par = s.par := rfl

@[simp] theorem errinc_before (k : ErrCat) (s : State) : (errinc k s).before = s.before := rfl

@[simp] theorem errinc_after (k : ErrCat) (s : State) : (errinc k s).after = s.after := rfl

@[simp] theorem errinc_hostPrio (k : ErrCat) (s : State) : (errinc k s).hostPrio = s.hostPrio := rfl

@[simp] theorem errinc_nowUs (k : ErrCat) (s : State) : (errinc k s).nowUs = s.nowUs := rfl

@[simp] theorem errinc_rdata (k : ErrCat) (s : State) : (errinc k s).rdata = s.rdata := rfl

@[simp] theorem errinc_script (k : ErrCat) (s : State) : (errinc k s).script = s.script := rfl

@[simp] theorem errinc_draws (k : ErrCat) (s : State) : (errinc k s).draws = s.draws := rfl

@[simp] theorem errinc_base (k : ErrCat) (s : State) : (errinc k s).tc.base = s.tc.base := rfl

@[simp] theorem errinc_cfg (k : ErrCat) (s : State) : (errinc k s).tc.cfg = s.tc.cfg := rfl

@[simp] theorem errinc_xfer (k : ErrCat) (s : State) : (errinc k s).tc.xfer = s.tc.xfer := rfl

@[simp] theorem errinc_buf (k : ErrCat) (s : State) : (errinc k s).tc.buf = s.tc.buf := rfl

@[simp] theorem errinc_cmd (k : ErrCat) (s : State) : (errinc k s).tc.cmd = s.tc.cmd := rfl

@[simp] theorem errinc_ev (k : ErrCat) (s : State) : (errinc k s).tc.ev = s.tc.ev := rfl

@[simp] theorem errinc_slave (k : ErrCat) (s : State) : (errinc k s).tc.slave = s.tc.slave := rfl

@[simp] theorem errinc_rcv (k : ErrCat) (s : State) : (errinc k s).tc.rcv = s.tc.rcv := rfl

@[simp] theorem errinc_port (k : ErrCat) (s : State) : (errinc k s).tc.port = s.tc.port := rfl

@[simp] theorem errinc_dma (k : ErrCat) (s : State) : (errinc k s).tc.dma = s.tc.dma := rfl

@[simp] theorem errinc_link (k : ErrCat) (s : State) : (errinc k s).tc.link = s.tc.link := rfl

/-! ### raiseEv -/

@[simp] theorem raiseEv_par (e : HostEv) (s : State) : (raiseEv e s).par = s.par := rfl

@[simp] theorem raiseEv_before (e : HostEv) (s : State) : (raiseEv e s).before = s.before := rfl

@[simp] theorem raiseEv_after (e : HostEv) (s : State) : (raiseEv e s).after = s.after := rfl

@[simp] theorem raiseEv_hostPrio (e : HostEv) (s : State) : (raiseEv e s).hostPrio = s.hostPrio := rfl

@[simp] theorem raiseEv_nowUs (e : HostEv) (s : State) : (raiseEv e s).nowUs = s.nowUs := rfl

@[simp] theorem raiseEv_rdata (e : HostEv) (s : State) : (raiseEv e s).rdata = s.rdata := rfl

@[simp] theorem raiseEv_script (e : HostEv) (s : State) : (raiseEv e s).script = s.script := rfl

@[simp] theorem raiseEv_draws (e : HostEv) (s : State) : (raiseEv e s).draws = s.draws := rfl

@[simp] theorem raiseEv_base (e : HostEv) (s : State) : (raiseEv e s).tc.base = s.tc.base := rfl

@[simp] theorem raiseEv_cfg (e : HostEv) (s : State) : (raiseEv e s).tc.cfg = s.tc.cfg := rfl

@[simp] theorem raiseEv_xfer (e : HostEv) (s : State) : (raiseEv e s).tc.xfer = s.tc.xfer := rfl

@[simp] theorem raiseEv_buf (e : HostEv) (s : State) : (raiseEv e s).tc.buf = s.tc.buf := rfl

@[simp] theorem raiseEv_cmd (e : HostEv) (s : State) : (raiseEv e s).tc.cmd = s.tc.cmd := rfl

@[simp] theorem raiseEv_slave (e : HostEv) (s : State) : (raiseEv e s).tc.slave = s.tc.slave := rfl

@[simp] theorem raiseEv_rcv (e : HostEv) (s : State) : (raiseEv e s).tc.rcv = s.tc.rcv := rfl

@[simp] theorem raiseEv_err (e : HostEv) (s : State) : (raiseEv e s).tc.err = s.tc.err := rfl

@[simp] theorem raiseEv_port (e : HostEv) (s : State) : (raiseEv e s).tc.port = s.tc.port := rfl

@[simp] theorem raiseEv_dma (e : HostEv) (s : State) : (raiseEv e s).tc.dma = s.tc.dma := rfl

@[simp] theorem raiseEv_link (e : HostEv) (s : State) : (raiseEv e s).tc.link = s.tc.link := rfl

/-! ### claim -/

@[simp] theorem claim_par (s : State) : (claim s).par = s.par := rfl

@[simp] theorem claim_before (s : State) : (claim s).before = s.before := rfl

@[simp] theorem claim_after (s : State) : (claim s).after = s.after := rfl

@[simp] theorem claim_hostPrio (s : State) : (claim s).hostPrio = s.hostPrio := rfl

@[simp] theorem claim_nowUs (s : State) : (claim s).nowUs = s.nowUs := rfl

@[simp] theorem claim_rdata (s : State) : (claim s).rdata = s.rdata := rfl

@[simp] theorem claim_script (s : State) : (claim s).script = s.script := rfl

@[simp] theorem claim_draws (s : State) : (claim s).draws = s.draws := rfl

@[simp] theorem claim_base (s : State) : (claim s).tc.base = s.tc.base := rfl

@[simp] theorem claim_cfg (s : State) : (claim s).tc.cfg = s.tc.cfg := rfl

@[simp] theorem claim_xfer (s : State) : (claim s).tc.xfer = s.tc.xfer := rfl

@[simp] theorem claim_buf (s : State) : (claim s).tc.buf = s.tc.buf := rfl

@[simp] theorem claim_cmd (s : State) : (claim s).tc.cmd = s.tc.cmd := rfl

@[simp] theorem claim_slave (s : State) : (claim s).tc.slave = s.tc.slave := rfl

@[simp] theorem claim_rcv (s : State) : (claim s).tc.rcv = s.tc.rcv := rfl

@[simp] theorem claim_err (s : State) : (claim s).tc.err = s.tc.err := rfl

@[simp] theorem claim_port (s : State) : (claim s).tc.port = s.tc.port := rfl

@[simp] theorem claim_dma (s : State) : (claim s).tc.dma = s.tc.dma := rfl

@[simp] theorem claim_link (s : State) : (claim s).tc.link = s.tc.link := rfl

/-! ### handlerReturn -/

@[simp] theorem handlerReturn_par (s : State) : (handlerReturn s).par = s.par := rfl

@[simp] theorem handlerReturn_before (s : State) : (handlerReturn s).before = s.before := rfl

@[simp] theorem handlerReturn_after (s : State) : (handlerReturn s).after = s.after := rfl

@[simp] theorem handlerReturn_hostPrio (s : State) : (handlerReturn s).hostPrio = s.hostPrio := rfl

@[simp] theorem handlerReturn_nowUs (s : State) : (handlerReturn s).nowUs = s.nowUs := rfl

@[simp] theorem handlerReturn_rdata (s : State) : (handlerReturn s).rdata = s.rdata := rfl

@[simp] theorem handlerReturn_script (s : State) : (handlerReturn s).script = s.script := rfl

@[simp] theorem handlerReturn_draws (s : State) : (handlerReturn s).draws = s.draws := rfl

@[simp] theorem handlerReturn_base (s : State) : (handlerReturn s).tc.base = s.tc.base := rfl

@[simp] theorem handlerReturn_cfg (s : State) : (handlerReturn s).tc.cfg = s.tc.cfg := rfl

@[simp] theorem handlerReturn_xfer (s : State) : (handlerReturn s).tc.xfer = s.tc.xfer := rfl

@[simp] theorem handlerReturn_buf (s : State) : (handlerReturn s).tc.buf = s.tc.buf := rfl

@[simp] theorem handlerReturn_cmd (s : State) : (handlerReturn s).tc.cmd = s.tc.cmd := rfl

@[simp] theorem handlerReturn_slave (s : State) : (handlerReturn s).tc.slave = s.tc.slave := rfl

@[simp] theorem handlerReturn_rcv (s : State) : (handlerReturn s).tc.rcv = s.tc.rcv := rfl

@[simp] theorem handlerReturn_err (s : State) : (handlerReturn s).tc.err = s.tc.err := rfl

@[simp] theorem handlerReturn_port (s : State) : (handlerReturn s).tc.port = s.tc.port := rfl

@[simp] theorem handlerReturn_dma (s : State) : (handlerReturn s).tc.dma = s.tc.dma := rfl

@[simp] theorem handlerReturn_link (s : State) : (handlerReturn s).tc.link = s.tc.link := rfl

/-! ### appendTx -/

@[simp] theorem appendTx_par (b : Byte) (s : State) : (appendTx b s).par = s.par := rfl

@[simp] theorem appendTx_before (b : Byte) (s : State) : (appendTx b s).before = s.before := rfl

@[simp] theorem appendTx_after (b : Byte) (s : State) : (appendTx b s).after = s.after := rfl

@[simp] theorem appendTx_hostPrio (b : Byte) (s : State) : (appendTx b s).hostPrio = s.hostPrio := rfl

@[simp] theorem appendTx_nowUs (b : Byte) (s : State) : (appendTx b s).nowUs = s.nowUs := rfl

@[simp] theorem appendTx_rdata (b : Byte) (s : State) : (appendTx b s).rdata = s.rdata := rfl

@[simp] theorem appendTx_script (b : Byte) (s : State) : (appendTx b s).script = s.script := rfl

@[simp] theorem appendTx_draws (b : Byte) (s : State) : (appendTx b s).draws = s.draws := rfl

@[simp] theorem appendTx_base (b : Byte) (s : State) : (appendTx b s).tc.base = s.tc.base := rfl

@[simp] theorem appendTx_cfg (b : Byte) (s : State) : (appendTx b s).tc.cfg = s.tc.cfg := rfl

@[simp] theorem appendTx_xfer (b : Byte) (s : State) : (appendTx b s).tc.xfer = s.tc.xfer := rfl

@[simp] theorem appendTx_cmd (b : Byte) (s : State) : (appendTx b s).tc.cmd = s.tc.cmd := rfl

@[simp] theorem appendTx_ev (b : Byte) (s : State) : (appendTx b s).tc.ev = s.tc.ev := rfl

@[simp] theorem appendTx_slave (b : Byte) (s : State) : (appendTx b s).tc.slave = s.tc.slave := rfl

@[simp] theorem appendTx_rcv (b : Byte) (s : State) : (appendTx b s).tc.rcv = s.tc.rcv := rfl

@[simp] theorem appendTx_err (b : Byte) (s : State) : (appendTx b s).tc.err = s.tc.err := rfl

@[simp] theorem appendTx_port (b : Byte) (s : State) : (appendTx b s).tc.port = s.tc.port := rfl

@[simp] theorem appendTx_dma (b : Byte) (s : State) : (appendTx b s).tc.dma = s.tc.dma := rfl

@[simp] theorem appendTx_link (b : Byte) (s : State) : (appendTx b s).tc.link = s.tc.link := rfl

/-! ### returnValue -/

@[simp] theorem returnValue_par (v : Word) (s : State) : (returnValue v s).par = s.par := rfl

@[simp] theorem returnValue_before (v : Word) (s : State) : (returnValue v s).before = s.before := rfl

@[simp] theorem returnValue_after (v : Word) (s : State) : (returnValue v s).after = s.after := rfl

@[simp] theorem returnValue_hostPrio (v : Word) (s : State) : (returnValue v s).hostPrio = s.hostPrio := rfl

@[simp] theorem returnValue_nowUs (v : Word) (s : State) : (returnValue v s).nowUs = s.nowUs := rfl

@[simp] theorem returnValue_script (v : Word) (s : State) : (returnValue v s).script = s.script := rfl

@[simp] theorem returnValue_draws (v : Word) (s : State) : (returnValue v s).draws = s.draws := rfl

@[simp] theorem returnValue_base (v : Word) (s : State) : (returnValue v s).tc.base = s.tc.base := rfl

@[simp] theorem returnValue_cfg (v : Word) (s : State) : (returnValue v s).tc.cfg = s.tc.cfg := rfl

@[simp] theorem returnValue_xfer (v : Word) (s : State) : (returnValue v s).tc.xfer = s.tc.xfer := rfl

@[simp] theorem returnValue_buf (v : Word) (s : State) : (returnValue v s).tc.buf = s.tc.buf := rfl

@[simp] theorem returnValue_cmd (v : Word) (s : State) : (returnValue v s).tc.cmd = s.tc.cmd := rfl

@[simp] theorem returnValue_ev (v : Word) (s : State) : (returnValue v s).tc.ev = s.tc.ev := rfl

@[simp] theorem returnValue_slave (v : Word) (s : State) : (returnValue v s).tc.slave = s.tc.slave := rfl

@[simp] theorem returnValue_rcv (v : Word) (s : State) : (returnValue v s).tc.rcv = s.tc.rcv := rfl

@[simp] theorem returnValue_err (v : Word) (s : State) : (returnValue v s).tc.err = s.tc.err := rfl

@[simp] theorem returnValue_port (v : Word) (s : State) : (returnValue v s).tc.port = s.tc.port := rfl

@[simp] theorem returnValue_dma (v : Word) (s : State) : (returnValue v s).tc.dma = s.tc.dma := rfl

@[simp] theorem returnValue_link (v : Word) (s : State) : (returnValue v s).tc.link = s.tc.link := rfl

/-! ### dmaShutdown -/

@[simp] theorem dmaShutdown_par (s : State) : (dmaShutdown s).par = s.par := by
  unfold dmaShutdown; split <;> simp

@[simp] theorem dmaShutdown_before (s : State) : (dmaShutdown s).before = s.before := by
  unfold dmaShutdown; split <;> simp

@[simp] theorem dmaShutdown_after (s : State) : (dmaShutdown s).after = s.after := by
  unfold dmaShutdown; split <;> simp

@[simp] theorem dmaShutdown_hostPrio (s : State) : (dmaShutdown s).hostPrio = s.hostPrio := by
  unfold dmaShutdown; split <;> simp

@[simp] theorem dmaShutdown_nowUs (s : State) : (dmaShutdown s).nowUs = s.nowUs := by
  unfold dmaShutdown; split <;> simp

@[simp] theorem dmaShutdown_rdata (s : State) : (dmaShutdown s).rdata = s.rdata := by
  unfold dmaShutdown; split <;> simp

@[simp] theorem dmaShutdown_script (s : State) : (dmaShutdown s).script = s.script := by
  unfold dmaShutdown; split <;> simp

@[simp] theorem dmaShutdown_draws (s : State) : (dmaShutdown s).draws = s.draws := by
  unfold dmaShutdown; split <;> simp

@[simp] theorem dmaShutdown_base (s : State) : (dmaShutdown s).tc.base = s.tc.base := by
  unfold dmaShutdown; split <;> simp

@[simp] theorem dmaShutdown_cfg (s : State) : (dmaShutdown s).tc.cfg = s.tc.cfg := by
  unfold dmaShutdown; split <;> simp

@[simp] theorem dmaShutdown_xfer (s : State) : (dmaShutdown s).tc.xfer = s.tc.xfer := by
  unfold dmaShutdown; split <;> simp

@[simp] theorem dmaShutdown_buf (s : State) : (dmaShutdown s).tc.buf = s.tc.buf := by
  unfold dmaShutdown; split <;> simp

@[simp] theorem dmaShutdown_cmd (s : State) : (dmaShutdown s).tc.cmd = s.tc.cmd := by
  unfold dmaShutdown; split <;> simp

@[simp] theorem dmaShutdown_ev (s : State) : (dmaShutdown s).tc.ev = s.tc.ev := by
  unfold dmaShutdown; split <;> simp

@[simp] theorem dmaShutdown_slave (s : State) : (dmaShutdown s).tc.slave = s.tc.slave := by
  unfold dmaShutdown; split <;> simp

@[simp] theorem dmaShutdown_rcv (s : State) : (dmaShutdown s).tc.rcv = s.tc.rcv := by
  unfold dmaShutdown; split <;> simp

@[simp] theorem dmaShutdown_err (s : State) : (dmaShutdown s).tc.err = s.tc.err := by
  unfold dmaShutdown; split <;> simp

/-! ### finalize -/

@[simp] theorem finalize_par (s : State) : (finalize s).par = s.par := by
  unfold finalize finalizeFlags; simp only []; split <;> simp

@[simp] theorem finalize_before (s : State) : (finalize s).before = s.before := by
  unfold finalize finalizeFlags; simp only []; split <;> simp

@[simp] theorem finalize_after (s : State) : (finalize s).after = s.after := by
  unfold finalize finalizeFlags; simp only []; split <;> simp

@[simp] theorem finalize_hostPrio (s : State) : (finalize s).hostPrio = s.hostPrio := by
  unfold finalize finalizeFlags; simp only []; split <;> simp

@[simp] theorem finalize_nowUs (s : State) : (finalize s).nowUs = s.nowUs := by
  unfold finalize finalizeFlags; simp only []; split <;> simp

@[simp] theorem finalize_rdata (s : State) : (finalize s).rdata = s.rdata := by
  unfold finalize finalizeFlags; simp only []; split <;> simp

@[simp] theorem finalize_script (s : State) : (finalize s).script = s.script := by
  unfold finalize finalizeFlags; simp only []; split <;> simp

@[simp] theorem finalize_draws (s : State) : (finalize s).draws = s.draws := by
  unfold finalize finalizeFlags; simp only []; split <;> simp

@[simp] theorem finalize_base (s : State) : (finalize s).tc.base = s.tc.base := by
  unfold finalize finalizeFlags; simp only []; split <;> simp

@[simp] theorem finalize_cfg (s : State) : (finalize s).tc.cfg = s.tc.cfg := by
  unfold finalize finalizeFlags; simp only []; split <;> simp

@[simp] theorem finalize_buf (s : State) : (finalize s).tc.buf = s.tc.buf := by
  unfold finalize finalizeFlags; simp only []; split <;> simp

@[simp] theorem finalize_ev (s : State) : (finalize s).tc.ev = s.tc.ev := by
  unfold finalize finalizeFlags; simp only []; split <;> simp

@[simp] theorem finalize_slave (s : State) : (finalize s).tc.slave = s.tc.slave := by
  unfold finalize finalizeFlags; simp only []; split <;> simp

@[simp] theorem finalize_rcv (s : State) : (finalize s).tc.rcv = s.tc.rcv := by
  unfold finalize finalizeFlags; simp only []; split <;> simp

@[simp] theorem finalize_err (s : State) : (finalize s).tc.err = s.tc.err := by
  unfold finalize finalizeFlags; simp only []; split <;> simp

/-! ### endArbLost -/

@[simp] theorem endArbLost_par (s : State) : (endArbLost s).par = s.par := by
  simp [endArbLost]

@[simp] theorem endArbLost_before (s : State) : (endArbLost s).before = s.before := by
  simp [endArbLost]

@[simp] theorem endArbLost_after (s : State) : (endArbLost s).after = s.after := by
  simp [endArbLost]

@[simp] theorem endArbLost_hostPrio (s : State) : (endArbLost s).hostPrio = s.hostPrio := by
  simp [endArbLost]

@[simp] theorem endArbLost_nowUs (s : State) : (endArbLost s).nowUs = s.nowUs := by
  simp [endArbLost]

@[simp] theorem endArbLost_rdata (s : State) : (endArbLost s).rdata = s.rdata := by
  simp [endArbLost]

@[simp] theorem endArbLost_script (s : State) : (endArbLost s).script = s.script := by
  simp [endArbLost]

@[simp] theorem endArbLost_draws (s : State) : (endArbLost s).draws = s.draws := by
  simp [endArbLost]

@[simp] theorem endArbLost_base (s : State) : (endArbLost s).tc.base = s.tc.base := by
  simp [endArbLost]

@[simp] theorem endArbLost_cfg (s : State) : (endArbLost s).tc.cfg = s.tc.cfg := by
  simp [endArbLost]

@[simp] theorem endArbLost_buf (s : State) : (endArbLost s).tc.buf = s.tc.buf := by
  simp [endArbLost]

@[simp] theorem endArbLost_slave (s : State) : (endArbLost s).tc.slave = s.tc.slave := by
  simp [endArbLost]

@[simp] theorem endArbLost_rcv (s : State) : (endArbLost s).tc.rcv = s.tc.rcv := by
  simp [endArbLost]

/-! ### endWithStop -/

@[simp] theorem endWithStop_par (st : Status) (s : State) : (endWithStop st s).par = s.par := by
  simp [endWithStop]

@[simp] theorem endWithStop_before (st : Status) (s : State) : (endWithStop st s).before = s.before := by
  simp [endWithStop]

@[simp] theorem endWithStop_after (st : Status) (s : State) : (endWithStop st s).after = s.after := by
  simp [endWithStop]

@[simp] theorem endWithStop_hostPrio (st : Status) (s : State) : (endWithStop st s).hostPrio = s.hostPrio := by
  simp [endWithStop]

@[simp] theorem endWithStop_nowUs (st : Status) (s : State) : (endWithStop st s).nowUs = s.nowUs := by
  simp [endWithStop]

@[simp] theorem endWithStop_rdata (st : Status) (s : State) : (endWithStop st s).rdata = s.rdata := by
  simp [endWithStop]

@[simp] theorem endWithStop_script (st : Status) (s : State) : (endWithStop st s).script = s.script := by
  simp [endWithStop]

@[simp] theorem endWithStop_draws (st : Status) (s : State) : (endWithStop st s).draws = s.draws := by
  simp [endWithStop]

@[simp] theorem endWithStop_base (st : Status) (s : State) : (endWithStop st s).tc.base = s.tc.base := by
  simp [endWithStop]

@[simp] theorem endWithStop_cfg (st : Status) (s : State) : (endWithStop st s).tc.cfg = s.tc.cfg := by
  simp [endWithStop]

@[simp] theorem endWithStop_buf (st : Status) (s : State) : (endWithStop st s).tc.buf = s.tc.buf := by
  simp [endWithStop]

@[simp] theorem endWithStop_slave (st : Status) (s : State) : (endWithStop st s).tc.slave = s.tc.slave := by
  simp [endWithStop]

@[simp] theorem endWithStop_rcv (st : Status) (s : State) : (endWithStop st s).tc.rcv = s.tc.rcv := by
  simp [endWithStop]

@[simp] theorem endWithStop_err (st : Status) (s : State) : (endWithStop st s).tc.err = s.tc.err := by
  simp [endWithStop]

/-! ### endSuccess -/

@[simp] theorem endSuccess_par (ev : HostEv) (s : State) : (endSuccess ev s).par = s.par := by
  unfold endSuccess; simp only []; split <;> split <;> simp

@[simp] theorem endSuccess_before (ev : HostEv) (s : State) : (endSuccess ev s).before = s.before := by
  unfold endSuccess; simp only []; split <;> split <;> simp

@[simp] theorem endSuccess_after (ev : HostEv) (s : State) : (endSuccess ev s).after = s.after := by
  unfold endSuccess; simp only []; split <;> split <;> simp

@[simp] theorem endSuccess_hostPrio (ev : HostEv) (s : State) : (endSuccess ev s).hostPrio = s.hostPrio := by
  unfold endSuccess; simp only []; split <;> split <;> simp

@[simp] theorem endSuccess_nowUs (ev : HostEv) (s : State) : (endSuccess ev s).nowUs = s.nowUs := by
  unfold endSuccess; simp only []; split <;> split <;> simp

@[simp] theorem endSuccess_rdata (ev : HostEv) (s : State) : (endSuccess ev s).rdata = s.rdata := by
  unfold endSuccess; simp only []; split <;> split <;> simp

@[simp] theorem endSuccess_script (ev : HostEv) (s : State) : (endSuccess ev s).script = s.script := by
  unfold endSuccess; simp only []; split <;> split <;> simp

@[simp] theorem endSuccess_draws (ev : HostEv) (s : State) : (endSuccess ev s).draws = s.draws := by
  unfold endSuccess; simp only []; split <;> split <;> simp

@[simp] theorem endSuccess_base (ev : HostEv) (s : State) : (endSuccess ev s).tc.base = s.tc.base := by
  unfold endSuccess; simp only []; split <;> split <;> simp

@[simp] theorem endSuccess_cfg (ev : HostEv) (s : State) : (endSuccess ev s).tc.cfg = s.tc.cfg := by
  unfold endSuccess; simp only []; split <;> split <;> simp

@[simp] theorem endSuccess_buf (ev : HostEv) (s : State) : (endSuccess ev s).tc.buf = s.tc.buf := by
  unfold endSuccess; simp only []; split <;> split <;> simp

@[simp] theorem endSuccess_slave (ev : HostEv) (s : State) : (endSuccess ev s).tc.slave = s.tc.slave := by
  unfold endSuccess; simp only []; split <;> split <;> simp

@[simp] theorem endSuccess_rcv (ev : HostEv) (s : State) : (endSuccess ev s).tc.rcv = s.tc.rcv := by
  unfold endSuccess; simp only []; split <;> split <;> simp

@[simp] theorem endSuccess_err (ev : HostEv) (s : State) : (endSuccess ev s).tc.err = s.tc.err := by
  unfold endSuccess; simp only []; split <;> split <;> simp

/-! ### startRecovery -/

@[simp] theorem startRecovery_par (s : State) : (startRecovery s).par = s.par := by
  simp [startRecovery]

@[simp] theorem startRecovery_before (s : State) : (startRecovery s).before = s.before := by
  simp [startRecovery]

@[simp] theorem startRecovery_after (s : State) : (startRecovery s).after = s.after := by
  simp [startRecovery]

@[simp] theorem startRecovery_hostPrio (s : State) : (startRecovery s).hostPrio = s.hostPrio := by
  simp [startRecovery]

@[simp] theorem startRecovery_nowUs (s : State) : (startRecovery s).nowUs = s.nowUs := by
  simp [startRecovery]

@[simp] theorem startRecovery_rdata (s : State) : (startRecovery s).rdata = s.rdata := by
  simp [startRecovery]

@[simp] theorem startRecovery_script (s : State) : (startRecovery s).script = s.script := by
  simp [startRecovery]

@[simp] theorem startRecovery_draws (s : State) : (startRecovery s).draws = s.draws := by
  simp [startRecovery]

@[simp] theorem startRecovery_base (s : State) : (startRecovery s).tc.base = s.tc.base := by
  simp [startRecovery]

@[simp] theorem startRecovery_cfg (s : State) : (startRecovery s).tc.cfg = s.tc.cfg := by
  simp [startRecovery]

@[simp] theorem startRecovery_xfer (s : State) : (startRecovery s).tc.xfer = s.tc.xfer := by
  simp [startRecovery]

@[simp] theorem startRecovery_buf (s : State) : (startRecovery s).tc.buf = s.tc.buf := by
  simp [startRecovery]

@[simp] theorem startRecovery_cmd (s : State) : (startRecovery s).tc.cmd = s.tc.cmd := by
  simp [startRecovery]

@[simp] theorem startRecovery_ev (s : State) : (startRecovery s).tc.ev = s.tc.ev := by
  simp [startRecovery]

@[simp] theorem startRecovery_slave (s : State) : (startRecovery s).tc.slave = s.tc.slave := by
  simp [startRecovery]

@[simp] theorem startRecovery_err (s : State) : (startRecovery s).tc.err = s.tc.err := by
  simp [startRecovery]

/-! ### startTransfer -/

@[simp] theorem startTransfer_par (k : Kind) (len : Nat) (b : Bool) (w : Word) (s : State) : (startTransfer k len b w s).par = s.par := rfl

@[simp] theorem startTransfer_before (k : Kind) (len : Nat) (b : Bool) (w : Word) (s : State) : (startTransfer k len b w s).before = s.before := rfl

@[simp] theorem startTransfer_after (k : Kind) (len : Nat) (b : Bool) (w : Word) (s : State) : (startTransfer k len b w s).after = s.after := rfl

@[simp] theorem startTransfer_hostPrio (k : Kind) (len : Nat) (b : Bool) (w : Word) (s : State) : (startTransfer k len b w s).hostPrio = s.hostPrio := rfl

@[simp] theorem startTransfer_nowUs (k : Kind) (len : Nat) (b : Bool) (w : Word) (s : State) : (startTransfer k len b w s).nowUs = s.nowUs := rfl

@[simp] theorem startTransfer_rdata (k : Kind) (len : Nat) (b : Bool) (w : Word) (s : State) : (startTransfer k len b w s).rdata = s.rdata := rfl

@[simp] theorem startTransfer_script (k : Kind) (len : Nat) (b : Bool) (w : Word) (s : State) : (startTransfer k len b w s).script = s.script := rfl

@[simp] theorem startTransfer_draws (k : Kind) (len : Nat) (b : Bool) (w : Word) (s : State) : (startTransfer k len b w s).draws = s.draws := rfl

@[simp] theorem startTransfer_base (k : Kind) (len : Nat) (b : Bool) (w : Word) (s : State) : (startTransfer k len b w s).tc.base = s.tc.base := rfl

@[simp] theorem startTransfer_buf (k : Kind) (len : Nat) (b : Bool) (w : Word) (s : State) : (startTransfer k len b w s).tc.buf = s.tc.buf := rfl

@[simp] theorem startTransfer_ev (k : Kind) (len : Nat) (b : Bool) (w : Word) (s : State) : (startTransfer k len b w s).tc.ev = s.tc.ev := rfl

@[simp] theorem startTransfer_slave (k : Kind) (len : Nat) (b : Bool) (w : Word) (s : State) : (startTransfer k len b w s).tc.slave = s.tc.slave := rfl

@[simp] theorem startTransfer_rcv (k : Kind) (len : Nat) (b : Bool) (w : Word) (s : State) : (startTransfer k len b w s).tc.rcv = s.tc.rcv := rfl

@[simp] theorem startTransfer_err (k : Kind) (len : Nat) (b : Bool) (w : Word) (s : State) : (startTransfer k len b w s).tc.err = s.tc.err := rfl

@[simp] theorem startTransfer_port (k : Kind) (len : Nat) (b : Bool) (w : Word) (s : State) : (startTransfer k len b w s).tc.port = s.tc.port := rfl

@[simp] theorem startTransfer_dma (k : Kind) (len : Nat) (b : Bool) (w : Word) (s : State) : (startTransfer k len b w s).tc.dma = s.tc.dma := rfl

@[simp] theorem startTransfer_link (k : Kind) (len : Nat) (b : Bool) (w : Word) (s : State) : (startTransfer k len b w s).tc.link = s.tc.link := rfl

/-! ### raiseSrxDone -/

@[simp] theorem raiseSrxDone_par (s : State) : (raiseSrxDone s).par = s.par := by
  unfold raiseSrxDone; simp only []; split <;> simp

@[simp] theorem raiseSrxDone_before (s : State) : (raiseSrxDone s).before = s.before := by
  unfold raiseSrxDone; simp only []; split <;> simp

@[simp] theorem raiseSrxDone_after (s : State) : (raiseSrxDone s).after = s.after := by
  unfold raiseSrxDone; simp only []; split <;> simp

@[simp] theorem raiseSrxDone_hostPrio (s : State) : (raiseSrxDone s).hostPrio = s.hostPrio := by
  unfold raiseSrxDone; simp only []; split <;> simp

@[simp] theorem raiseSrxDone_nowUs (s : State) : (raiseSrxDone s).nowUs = s.nowUs := by
  unfold raiseSrxDone; simp only []; split <;> simp

@[simp] theorem raiseSrxDone_rdata (s : State) : (raiseSrxDone s).rdata = s.rdata := by
  unfold raiseSrxDone; simp only []; split <;> simp

@[simp] theorem raiseSrxDone_script (s : State) : (raiseSrxDone s).script = s.script := by
  unfold raiseSrxDone; simp only []; split <;> simp

@[simp] theorem raiseSrxDone_draws (s : State) : (raiseSrxDone s).draws = s.draws := by
  unfold raiseSrxDone; simp only []; split <;> simp

@[simp] theorem raiseSrxDone_base (s : State) : (raiseSrxDone s).tc.base = s.tc.base := by
  unfold raiseSrxDone; simp only []; split <;> simp

@[simp] theorem raiseSrxDone_cfg (s : State) : (raiseSrxDone s).tc.cfg = s.tc.cfg := by
  unfold raiseSrxDone; simp only []; split <;> simp

@[simp] theorem raiseSrxDone_xfer (s : State) : (raiseSrxDone s).tc.xfer = s.tc.xfer := by
  unfold raiseSrxDone; simp only []; split <;> simp

@[simp] theorem raiseSrxDone_buf (s : State) : (raiseSrxDone s).tc.buf = s.tc.buf := by
  unfold raiseSrxDone; simp only []; split <;> simp

@[simp] theorem raiseSrxDone_cmd (s : State) : (raiseSrxDone s).tc.cmd = s.tc.cmd := by
  unfold raiseSrxDone; simp only []; split <;> simp

@[simp] theorem raiseSrxDone_rcv (s : State) : (raiseSrxDone s).tc.rcv = s.tc.rcv := by
  unfold raiseSrxDone; simp only []; split <;> simp

@[simp] theorem raiseSrxDone_err (s : State) : (raiseSrxDone s).tc.err = s.tc.err := by
  unfold raiseSrxDone; simp only []; split <;> simp

@[simp] theorem raiseSrxDone_port (s : State) : (raiseSrxDone s).tc.port = s.tc.port := by
  unfold raiseSrxDone; simp only []; split <;> simp

@[simp] theorem raiseSrxDone_dma (s : State) : (raiseSrxDone s).tc.dma = s.tc.dma := by
  unfold raiseSrxDone; simp only []; split <;> simp

@[simp] theorem raiseSrxDone_link (s : State) : (raiseSrxDone s).tc.link = s.tc.link := by
  unfold raiseSrxDone; simp only []; split <;> simp

/-! ### Inside the groups an operation changes -/

@[simp] theorem emit_sent (c : PortCmd) (s : State) :
    (emit c s).tc.link.sent = s.tc.link.sent ++ [c] := by
  cases c <;> first | rfl | (simp only [emit, portEffect]; split <;> rfl)

@[simp] theorem emit_lev (c : PortCmd) (s : State) : (emit c s).tc.port.lev = s.tc.port.lev := by
  cases c <;> first | rfl | (simp only [emit, portEffect]; split <;> rfl)

@[simp] theorem emit_linkBusy (c : PortCmd) (s : State) : (emit c s).tc.port.linkBusy = s.tc.port.linkBusy := by
  cases c <;> first | rfl | (simp only [emit, portEffect]; split <;> rfl)

@[simp] theorem setResult_result (v : Word) (s : State) : (setResult v s).tc.cmd.result = v := rfl

@[simp] theorem setResult_busy (v : Word) (s : State) : (setResult v s).tc.cmd.busy = s.tc.cmd.busy := rfl

@[simp] theorem setResult_op (v : Word) (s : State) : (setResult v s).tc.cmd.op = s.tc.cmd.op := rfl

@[simp] theorem completeCmd_result (v : Word) (s : State) : (completeCmd v s).tc.cmd.result = v := rfl

@[simp] theorem completeCmd_busy (v : Word) (s : State) : (completeCmd v s).tc.cmd.busy = false := rfl

@[simp] theorem completeCmd_op (v : Word) (s : State) : (completeCmd v s).tc.cmd.op = .none := rfl

@[simp] theorem errinc_err (k : ErrCat) (s : State) :
    (errinc k s).tc.err = errSet k (satInc (errGet k s.tc.err)) s.tc.err := rfl

@[simp] theorem raiseEv_isrDepth (e : HostEv) (s : State) :
    (raiseEv e s).tc.ev.isrDepth = s.tc.ev.isrDepth := rfl

@[simp] theorem raiseEv_irqPend (e : HostEv) (s : State) :
    (raiseEv e s).tc.ev.irqPend = s.tc.ev.irqPend ||| (eventMask e &&& s.tc.cfg.irqEn) := rfl

@[simp] theorem returnValue_rdata (v : Word) (s : State) : (returnValue v s).rdata = some v := rfl

@[simp] theorem appendTx_txlen (b : Byte) (s : State) :
    (appendTx b s).tc.buf.txlen = s.tc.buf.txlen + 1 := rfl

@[simp] theorem appendTx_txbuf (b : Byte) (s : State) :
    (appendTx b s).tc.buf.txbuf = s.tc.buf.txbuf.write s.tc.buf.txlen b := rfl

end Sys2Proof.Machine
end

