-- ==== Sys2Proof/Laws/Ops.lean ====
section
/-!
SUPPORT. One lemma for each shared operation that says everything it can do, which proofs cite instead of unfolding it.
-/

namespace Sys2Proof.Machine

/-! ### Results -/

@[simp] theorem mapNext_next (f : State → State) (s : State) : mapNext f (.next s) = .next (f s) := rfl

/-- A mapped result is a next state only of a next state. -/
theorem mapNext_eq_next {f : State → State} {r : Result} {t : State} (h : mapNext f r = .next t) :
    ∃ s, r = .next s ∧ t = f s := by
  cases r with
  | next s => exact ⟨s, rfl, by simpa using h.symm⟩
  | fault _ => cases h
  | refused _ => cases h

/-- A mapped result faults only where the result does. -/
theorem mapNext_eq_fault {f : State → State} {r : Result} {e : Fault} (h : mapNext f r = .fault e) :
    r = .fault e := by
  cases r with
  | next _ => cases h
  | fault _ => exact h
  | refused _ => cases h

/-- Everything a gated command can do: it is rejected, or its body runs (30 R100). -/
theorem gated_cases (g : Bool) (body : State → State) (s : State) :
    (gated g body s = .next (rejectCmd s) ∧ (s.tc.cmd.busy = true ∨ g = true)) ∨
      (gated g body s = .next (body s) ∧ s.tc.cmd.busy = false ∧ g = false) := by
  unfold gated
  split
  · next h => exact .inl ⟨rfl, .inl h⟩
  · next h =>
    split
    · next hg => exact .inl ⟨rfl, .inr hg⟩
    · next hg => exact .inr ⟨rfl, by simpa using h, by simpa using hg⟩

/-- A gated command is rejected while a command is in progress (30 R100). -/
theorem gated_busy {g : Bool} {body : State → State} {s : State} (h : s.tc.cmd.busy = true) :
    gated g body s = .next (rejectCmd s) := by simp [gated, h]

/-- A gated command its guard accepts runs (30 R100). -/
theorem gated_accept {g : Bool} {body : State → State} {s : State} (h : s.tc.cmd.busy = false)
    (hg : g = false) : gated g body s = .next (body s) := by simp [gated, h, hg]

/-! ### Buffer cells -/

/-- Reading a transmit cell goes on with its value, or faults if it holds none (10 R35). -/
theorem readTx_cases (i : Nat) (s : State) (k : Byte → Result) :
    (∃ b, s.tc.buf.txbuf.read i = some b ∧ readTx i s k = k b) ∨
      (s.tc.buf.txbuf.read i = none ∧ readTx i s k = .fault (.unwrittenCell .tx i)) := by
  unfold readTx
  split
  · next b h => exact .inl ⟨b, h, rfl⟩
  · next h => exact .inr ⟨h, rfl⟩

/-- Reading a receive cell goes on with its value, or faults if it holds none (10 R35). -/
theorem readRx_cases (i : Nat) (s : State) (k : Byte → Result) :
    (∃ b, s.tc.buf.rxbuf.read i = some b ∧ readRx i s k = k b) ∨
      (s.tc.buf.rxbuf.read i = none ∧ readRx i s k = .fault (.unwrittenCell .rx i)) := by
  unfold readRx
  split
  · next b h => exact .inl ⟨b, h, rfl⟩
  · next h => exact .inr ⟨h, rfl⟩

/-- Storing a received byte goes on with it stored, or faults outside the buffer (10 R26). -/
theorem storeRx_cases (d : Byte) (s : State) (k : State → Result) :
    (s.tc.buf.rxlen < s.par.rxCap ∧
      storeRx d s k =
        k { s with
          tc.buf.rxbuf := s.tc.buf.rxbuf.write s.tc.buf.rxlen d, tc.buf.rxlen := s.tc.buf.rxlen + 1 }) ∨
      (s.par.rxCap ≤ s.tc.buf.rxlen ∧ storeRx d s k = .fault (.outsideBuffer .rx s.tc.buf.rxlen)) := by
  unfold storeRx
  split
  · next h => exact .inl ⟨h, rfl⟩
  · next h => exact .inr ⟨by omega, rfl⟩

/-! ### Error counters -/

@[simp] theorem errGet_errSet_same (k : ErrCat) (v : Word) (e : ErrCnt) : errGet k (errSet k v e) = v := by
  cases k <;> rfl

theorem errGet_errSet_other (k j : ErrCat) (v : Word) (e : ErrCnt) (h : j ≠ k) :
    errGet j (errSet k v e) = errGet j e := by
  cases k <;> cases j <;> first | rfl | exact absurd rfl h

/-! ### The ends of a master transfer -/

/-- After `Finalize` no DMA phase is open, and the flags are clear (42 R175). -/
theorem finalize_xfer (s : State) :
    (finalize s).tc.xfer = { s.tc.xfer with dmaPhase := .off, toFlag := false, inflightNak := false } := by
  unfold finalize finalizeFlags
  simp only []
  split <;> simp

/-- `Finalize` completes a command that waits for the transfer with ERRCODE, and touches no other
(42 R175). -/
theorem finalize_cmd (s : State) :
    (finalize s).tc.cmd =
      if s.tc.cmd.busy && (s.tc.cmd.op == .xfer || s.tc.cmd.op == .await) then
        { s.tc.cmd with
          result := errCode s
          busy := false
          op := .none }
      else s.tc.cmd := by
  unfold finalize finalizeFlags
  simp only [dmaShutdown_cmd]
  split <;> simp [completeCmd, errCode, isDone]

/-- What `endArbLost` leaves in the transfer registers (42 R171). -/
theorem endArbLost_xfer (s : State) :
    (endArbLost s).tc.xfer =
      { s.tc.xfer with
        status := .arbitrationLost, masterHeld := false, dmaPhase := .off, toFlag := false,
        inflightNak := false } := by
  simp [endArbLost, finalize_xfer]

/-- What `endWithStop` leaves in the transfer registers (42 R172, R177). -/
theorem endWithStop_xfer (st : Status) (s : State) :
    (endWithStop st s).tc.xfer =
      { s.tc.xfer with
        status := st, masterHeld := false, dmaPhase := .off, toFlag := false, inflightNak := false } := by
  simp [endWithStop, finalize_xfer]

/-- What `endSuccess` leaves in the transfer registers (42 R174). -/
theorem endSuccess_xfer (ev : HostEv) (s : State) :
    (endSuccess ev s).tc.xfer =
      { s.tc.xfer with
        status := .waiting, masterHeld := s.tc.xfer.masterHeld && !s.tc.xfer.stopReq, dmaPhase := .off,
        toFlag := false, inflightNak := false } := by
  unfold endSuccess
  simp only []
  split <;> split <;> simp_all [finalize_xfer]

/-- What `startRecovery` leaves in the recovery registers (41 R150). -/
theorem startRecovery_rcv (s : State) :
    (startRecovery s).tc.rcv = { s.tc.rcv with pinsGpio := true, k := 0, step := .sample } := by
  simp [startRecovery]

/-! ### The link -/

/-- Placing an event fills the empty slot and changes nothing else, or is refused (30 R107 (a)). -/
theorem placeLev_cases (ev : LinkEv) (s : State) :
    (s.tc.port.lev = none ∧ placeLev ev s = .next { s with tc.port.lev := some ev }) ∨
      (s.tc.port.lev ≠ none ∧ placeLev ev s = .refused (.outsideContract .levFull)) := by
  unfold placeLev
  cases h : s.tc.port.lev with
  | none => exact .inl ⟨rfl, rfl⟩
  | some _ => exact .inr ⟨by simp, rfl⟩

/-- An answer takes the oldest byte the link was given and goes on, or is refused (30 R107 (b), (c)). -/
theorem answerIssued_cases (x : Issued) (s : State) (k : State → Result) :
    (∃ rest, s.tc.link.issued = x :: rest ∧
        answerIssued x s k = k { s with tc.link.issued := rest }) ∨
      answerIssued x s k = .refused (.outsideContract .notIssued) := by
  unfold answerIssued
  split
  · next y rest h =>
    split
    · next hy => exact .inl ⟨rest, hy ▸ h, rfl⟩
    · exact .inr rfl
  · exact .inr rfl

/-- A slave event needs slave mode, no hold and no stretch, or is refused (30 R107 (f), (g)). -/
theorem slaveEvent_eq_next {s t : State} {k : Result} (h : slaveEvent s k = .next t) :
    s.tc.cfg.mode = .slave ∧ s.tc.slave.hold = .none ∧ s.tc.link.stretched = false ∧ k = .next t := by
  unfold slaveEvent at h
  split at h
  · cases h
  · next hm =>
    split at h
    · cases h
    · next hh =>
      refine ⟨?_, ?_, ?_, h⟩
      · cases hc : s.tc.cfg.mode <;> simp_all
      all_goals simp_all

/-! ### The slave dispatcher -/

/-- The address match that waits is the one in `lev` (30 R106). -/
theorem pendingAddr_eq_some {s : State} {a : Addr7} {rw : Bool} :
    pendingAddr s = some (a, rw) ↔ s.tc.port.lev = some (.addr a rw) := by
  unfold pendingAddr
  rcases s.tc.port.lev with _ | (_ | _ | _ | _ | _ | _) <;> simp

/-- Everything step B of an address match does: the event is consumed, the address captured and the phase of its
read/write bit set up (45 R245). -/
theorem fireDispatch_eq {s : State} {a : Addr7} {rw : Bool} (h : s.tc.port.lev = some (.addr a rw)) :
    fireDispatch s =
      .next (slaveSetup rw
        { s with tc.port.lev := none, tc.slave.boundaryDone := false, tc.slave.rxaddr := a }) := by
  simp [fireDispatch, pendingAddr_eq_some.mpr h]

/-! ### Steps -/

/-- A step by a rule is the rule's effect under its guard, or no step (00 R9). -/
theorem stepRule_cases (r : Rule) (s : State) :
    (ruleEnabled r s = true ∧ stepRule r s = fireRule r s) ∨
      (ruleEnabled r s = false ∧ stepRule r s = .refused (.notEnabled r)) := by
  unfold stepRule
  split
  · next h => exact .inl ⟨h, rfl⟩
  · next h => exact .inr ⟨by simpa using h, rfl⟩

/-- The step takes the first move of the script. -/
theorem step_script {s : State} {m : Move} {rest : List Move} (h : s.script = m :: rest) :
    step s = move m { s with script := rest } := by simp [step, nextMove, h]

/-- With an empty script the step takes a free move. -/
theorem step_free {s : State} (h : s.script = []) :
    step s = move (Config.freeMove s.draws) { s with draws := s.draws + 1 } := by simp [step, nextMove, h]

end Sys2Proof.Machine
end

