-- ==== Sys2Proof/Laws/PerInstr.lean ====
section
/-!
SUPPORT. Laws stated per command: `TableRow` says that the word of a command meets its row of spec/opcode_table.json
(mask 0xFF) and that bits 31:12 are zero (30_encoding.md R90).
-/

namespace Sys2Proof.Laws.TableRow

/-- The command's word matches its opcode under the table's mask, and its reserved bits are zero. -/
def Statement (i : Instr) : Prop :=
  encode i &&& 0x000000FF = i.opc.setWidth 32 ∧ encode i &&& 0xFFFFF000 = 0

/-- The word of any command has this shape. -/
theorem of_fields (n : BitVec 2) (d s : BitVec 1) (opc : Byte)
    (w : Word) (h : w = (0 : BitVec 20) ++ n ++ d ++ s ++ opc) :
    w &&& 0x000000FF = opc.setWidth 32 ∧ w &&& 0xFFFFF000 = 0 := by
  subst h
  constructor
  · ext i hi
    simp only [BitVec.getElem_and, BitVec.getElem_append, BitVec.getElem_setWidth]
    interval_cases i <;> simp [BitVec.getLsbD_eq_getElem]
  · ext i hi
    simp only [BitVec.getElem_and, BitVec.getElem_append]
    interval_cases i <;> simp

theorem configure : Statement .configure := of_fields 0 _ _ _ _ rfl
theorem setStrategy : Statement .setStrategy := of_fields 0 _ _ _ _ rfl
theorem setRate : Statement .setRate := of_fields 0 _ _ _ _ rfl
theorem beginWrite : Statement .beginWrite := of_fields 0 _ _ _ _ rfl
theorem writeByte : Statement .writeByte := of_fields 0 _ _ _ _ rfl
theorem writeBytes (nbytes : Nat) : Statement (.writeBytes nbytes) := of_fields _ _ _ _ _ rfl
theorem endWrite (s d : Bool) : Statement (.endWrite s d) := of_fields 0 _ _ _ _ rfl
theorem sendWrite (s : Bool) : Statement (.sendWrite s) := of_fields 0 _ _ _ _ rfl
theorem read (s d : Bool) : Statement (.read s d) := of_fields 0 _ _ _ _ rfl
theorem sendRead (s : Bool) : Statement (.sendRead s) := of_fields 0 _ _ _ _ rfl
theorem await (d : Bool) : Statement (.await d) := of_fields 0 _ _ _ _ rfl
theorem slaveRelease : Statement .slaveRelease := of_fields 0 _ _ _ _ rfl
theorem resetBus : Statement .resetBus := of_fields 0 _ _ _ _ rfl
theorem resetErrcnt : Statement .resetErrcnt := of_fields 0 _ _ _ _ rfl
theorem eoi : Statement .eoi := of_fields 0 _ _ _ _ rfl

end Sys2Proof.Laws.TableRow
end

