-- ==== Sys2Proof/Machine/Assembly.lean ====
section
/-!
DEFINITION. The assembly lines of host programs and the pseudo-commands (30_encoding.md R103, R104): each stands for a
list of host accesses.
-/

namespace Sys2Proof.Machine

/-- One line of a host program (30 R103). A budget is `some t` for the form with an operand and `none` for the
form with `.D`. -/
inductive AsmLine where
  | w (r : Reg) (v : Word)
  | r (r : Reg)
  | configure (slave : Bool) (strategy : BitVec 2) (autoRetry prioChk rangeEn : Bool) (addr1 addr2 : Addr7)
      (rate : Word)
  | setStrategy (code : BitVec 2)
  | setRate (rate : Word)
  | beginWrite (a : Addr7)
  | writeByte (b : Byte)
  | writeBytes (bs : List Byte)
  | endWrite (stop : Bool) (budget : Option Word)
  | sendWrite (stop : Bool)
  | read (stop : Bool) (a : Addr7) (n : Word) (budget : Option Word)
  | sendRead (stop : Bool) (a : Addr7) (n : Word)
  | await (budget : Option Word)
  | slaveRelease
  | resetBus
  | resetErrcnt (k : Byte)
  | eoi
  deriving DecidableEq, Repr

/-- Up to four bytes packed little-endian (20 R75). -/
def packBytes : List Byte → Word
  | [] => 0
  | b :: bs => b.setWidth 32 ||| (packBytes bs <<< 8)

/-- CONFIGURE's ARG0 (30 R92). -/
def packConfigArg0 (slave : Bool) (strategy : BitVec 2) (autoRetry prioChk rangeEn : Bool) : Word :=
  bitAt slave 0 ||| (strategy.setWidth 32 <<< 1) ||| bitAt autoRetry 3 ||| bitAt prioChk 4 ||| bitAt rangeEn 5

/-- CONFIGURE's ARG1 (30 R92). -/
def packConfigArg1 (addr1 addr2 : Addr7) : Word := addr1.setWidth 32 ||| (addr2.setWidth 32 <<< 8)

/-- The register writes a budget needs: ARG2, or none for the `.D` form (30 R103). -/
def budgetWrites : Option Word → List (Reg × Word)
  | some t => [(.arg2, t)]
  | none => []

/-- The command of a line, with the ARG writes it needs in order (30 R103); none for a plain register line. -/
def lineCommand : AsmLine → Option (List (Reg × Word) × Instr)
  | .w _ _ => none
  | .r _ => none
  | .configure slave strategy autoRetry prioChk rangeEn addr1 addr2 rate =>
    some ([(.arg0, packConfigArg0 slave strategy autoRetry prioChk rangeEn),
      (.arg1, packConfigArg1 addr1 addr2), (.arg2, rate)], .configure)
  | .setStrategy code => some ([(.arg0, code.setWidth 32)], .setStrategy)
  | .setRate rate => some ([(.arg0, rate)], .setRate)
  | .beginWrite a => some ([(.arg0, a.setWidth 32)], .beginWrite)
  | .writeByte b => some ([(.arg0, b.setWidth 32)], .writeByte)
  | .writeBytes bs => some ([(.arg0, packBytes bs)], .writeBytes bs.length)
  | .endWrite stop budget => some (budgetWrites budget, .endWrite stop budget.isNone)
  | .sendWrite stop => some ([], .sendWrite stop)
  | .read stop a n budget =>
    some ([(.arg0, a.setWidth 32), (.arg1, n)] ++ budgetWrites budget, .read stop budget.isNone)
  | .sendRead stop a n => some ([(.arg0, a.setWidth 32), (.arg1, n)], .sendRead stop)
  | .await budget => some (budgetWrites budget, .await budget.isNone)
  | .slaveRelease => some ([], .slaveRelease)
  | .resetBus => some ([], .resetBus)
  | .resetErrcnt k => some ([(.arg0, k.setWidth 32)], .resetErrcnt)
  | .eoi => some ([], .eoi)

/-- A register write as an access to instance `n` (30 R103). -/
def regWriteAccess (n : Nat) (rv : Reg × Word) : Access := .write (.reg n (regOff rv.1)) 4 rv.2

/-- The accesses a line stands for (30 R103). -/
def expandLine (n : Nat) (l : AsmLine) : List Access :=
  match lineCommand l with
  | some (args, i) => args.map (regWriteAccess n) ++ [regWriteAccess n (.cmd, encode i)]
  | none =>
    match l with
    | .w r v => [regWriteAccess n (r, v)]
    | .r r => [.read (.reg n (regOff r)) 4]
    | _ => []

/-- A program as moves of HOST, in program order (20 R79). -/
def hostProgram (n : Nat) (ls : List AsmLine) : List Move := (ls.flatMap (expandLine n)).map .host

/-! ### Pseudo-commands (30 R104) -/

/-- `PROBE a, t`. -/
def asmProbe (a : Addr7) (t : Word) : List AsmLine := [.beginWrite a, .endWrite true (some t)]

/-- `WRITE_BYTES` of successive groups of up to four bytes. -/
def asmWriteGroups : List Byte → List AsmLine
  | b0 :: b1 :: b2 :: b3 :: rest => .writeBytes [b0, b1, b2, b3] :: asmWriteGroups rest
  | [] => []
  | bs => [.writeBytes bs]

/-- `WRITE_ARRAY a, bytes`. -/
def asmWriteArray (a : Addr7) (bs : List Byte) : List AsmLine := .beginWrite a :: asmWriteGroups bs

/-- `READ_ARRAY a, n, t`, where RXAVAIL reads `avail`. -/
def asmReadArray (a : Addr7) (n t : Word) (avail : Nat) : List AsmLine :=
  .read true a n (some t) :: .r .rxavail :: List.replicate avail (.r .rxdata)

/-- `WAIT_DONE`, where the `polls`-th read finds DONE = 1 and CMD_BUSY = 0. -/
def asmWaitDone (polls : Nat) : List AsmLine := List.replicate polls (.r .status)

/-- `ACK_IRQ` around the handler's lines. -/
def asmAckIrq (handler : List AsmLine) : List AsmLine := .r .irqClaim :: handler ++ [.eoi]

end Sys2Proof.Machine
end

