-- ==== Sys2Proof/Tests/Slice0.lean ====
section
/-!
SUPPORT. Tests: the well-formedness smoke, decoding of words written out from 30_encoding.md R90 and R93, single
steps against the vectors of 95_test_vectors.md, and for each statement a witness of its hypotheses.
-/

namespace Sys2Proof.Tests

open Sys2Proof.Machine

/-! ### The premise RST of 95_test_vectors.md -/

/-- The parameters of RST. -/
def rstPar : Params where
  txExtra := 30
  rxExtra := 31
  prioExtra := 14
  irqPrioReset := 0
  rateReset := 0
  hasStopf := true
  edgeExtra := 1
  sclWait := .unbounded

/-- RST: two instances at 0x000 and 0x100. -/
def rst : State := State.resetWith rstPar 0 [0x100]

/-- The answer is a next state with property `p`. -/
def ends (r : Result) (p : State → Bool) : Bool :=
  match r with
  | .next t => p t
  | .fault _ => false
  | .refused _ => false

/-- A write of a command word to CMD of instance 0. -/
def cmd (w : Word) (s : State) : Result := hostWrite 0x00 4 w s

/-- BEGIN_WRITE 0x50 and the bytes 01, 02, 03 done. -/
def filled : State :=
  { rst with tc.buf.txbuf := [(0, 0xA0), (1, 0x01), (2, 0x02), (3, 0x03)], tc.buf.txlen := 4 }

/-- A blocking Immediate transmit of `filled` with byte 0 in flight. -/
def sending : State :=
  { filled with
    tc.xfer.status := .sending, tc.xfer.stopReq := true, tc.xfer.masterHeld := true, tc.cmd.busy := true,
    tc.cmd.op := .xfer, tc.cmd.kind := .tx, tc.cmd.blocking := true, tc.link.issued := [.write] }

/-- A blocking Immediate receive of three bytes with the first in flight. -/
def receiving : State :=
  { rst with
    tc.xfer.status := .receiving, tc.xfer.stopReq := true, tc.xfer.masterHeld := true, tc.buf.rxreq := 3,
    tc.cmd.busy := true, tc.cmd.op := .xfer, tc.cmd.kind := .rx, tc.cmd.blocking := true,
    tc.link.issued := [.recv] }

/-- A slave at 0x50 served at priority 8. -/
def slave : State := { rst with tc.cfg.mode := .slave, tc.cfg.addr1 := 0x50, tc.cfg.irqPrio := 8 }

/-- An accepted transfer start waiting for the bus. -/
def acquiring : State := { filled with tc.cmd.busy := true, tc.cmd.op := .acq, tc.cmd.blocking := true }

/-- RESET_BUS in progress. -/
def recovering : State :=
  { rst with
    tc.cmd.busy := true, tc.cmd.op := .recover, tc.rcv.step := .sample, tc.rcv.pinsGpio := true,
    tc.port.sda := false }

/-- A DMA transfer in Bulk, served at priority 8. -/
def bulk : State :=
  { sending with
    tc.cfg.irqPrio := 8, tc.xfer.eff := .dma, tc.xfer.dmaPhase := .bulk, tc.buf.txidx := 1,
    tc.dma := { dir := .tx, next := 2, last := 2, enabled := true, ready := true, pending := false } }

/-! ### Well-formedness -/

theorem test_wf_rejects_zero_bytes : (Instr.writeBytes 0).wf = false := by decide

theorem test_wf_rejects_five_bytes : (Instr.writeBytes 5).wf = false := by decide

theorem test_wf_accepts_bounds : (Instr.writeBytes 1).wf = true ∧ (Instr.writeBytes 4).wf = true := by decide

/-! ### Decoding: OPC in bits 7:0, S bit 8, D bit 9, N bits 11:10 (30 R90, R93) -/

theorem test_decode_configure : decode 0b00000001 = .ok .configure := by decide
theorem test_decode_set_strategy : decode 0b00000010 = .ok .setStrategy := by decide
theorem test_decode_set_rate : decode 0b00000011 = .ok .setRate := by decide
theorem test_decode_begin_write : decode 0b00010000 = .ok .beginWrite := by decide
theorem test_decode_write_byte : decode 0b00010001 = .ok .writeByte := by decide
theorem test_decode_write_bytes_3 : decode 0b10_0_0_00010010 = .ok (.writeBytes 3) := by decide
theorem test_decode_write_bytes_4 : decode 0b11_0_0_00010010 = .ok (.writeBytes 4) := by decide
theorem test_decode_end_write_s : decode 0b00_0_1_00010011 = .ok (.endWrite true false) := by decide
theorem test_decode_end_write_d : decode 0b00_1_0_00010011 = .ok (.endWrite false true) := by decide
theorem test_decode_send_write_s : decode 0b00_0_1_00010100 = .ok (.sendWrite true) := by decide
theorem test_decode_read_s_d : decode 0b00_1_1_00010101 = .ok (.read true true) := by decide
theorem test_decode_send_read : decode 0b00_0_0_00010110 = .ok (.sendRead false) := by decide
theorem test_decode_await_d : decode 0b00_1_0_00010111 = .ok (.await true) := by decide
theorem test_decode_slave_release : decode 0b00100000 = .ok .slaveRelease := by decide
theorem test_decode_reset_bus : decode 0b00110000 = .ok .resetBus := by decide
theorem test_decode_reset_errcnt : decode 0b00110001 = .ok .resetErrcnt := by decide
theorem test_decode_eoi : decode 0b00111111 = .ok .eoi := by decide

/-- V-ENC-2: bits 31:12 are ignored. -/
theorem test_decode_reserved_bits : decode 0xFFFFF113 = .ok (.endWrite true false) := by decide

/-- V-ENC-6: the ends of each illegal range. -/
theorem test_decode_illegal :
    ([0x00, 0x04, 0x0F, 0x18, 0x1F, 0x21, 0x2F, 0x32, 0x3E, 0x40, 0xFF] : List Word).all
      (fun w => decode w == .error (.illegalOpcode (w.setWidth 8))) = true := by decide

/-- 30 R103's example: `END_WRITE.S 0` is `W ARG2, 0 ; W CMD, 0x00000113`. -/
theorem test_expand_end_write :
    expandLine 0 (.endWrite true (some 0)) =
      [.write (.reg 0 0x0C) 4 0, .write (.reg 0 0x00) 4 0x00000113] := by decide

/-- P2: `CONFIGURE 0, 1, 0, 1, 0, 0, 0, 100000`. -/
theorem test_expand_configure :
    expandLine 0 (.configure false 1 false true false 0 0 100000) =
      [.write (.reg 0 0x04) 4 0x00000012, .write (.reg 0 0x08) 4 0, .write (.reg 0 0x0C) 4 0x000186A0,
        .write (.reg 0 0x00) 4 0x00000001] := by decide

/-! ### Single steps of the commands -/

/-- V-CFG-1. -/
theorem test_configure_slave :
    ends (cmd 0x01 { rst with tc.cmd.arg0 := 0x13, tc.cmd.arg1 := 0x50 }) (fun t =>
      t.tc.cmd.result == 1 && configWord t == 0x13 && addrWord t == 0x50 && t.tc.xfer.status == .waiting) =
      true := by decide

/-- V-CFG-3: the silent downgrade. -/
theorem test_configure_downgrade :
    ends (cmd 0x01 { rst with tc.cmd.arg0 := 0x14, tc.port.dmaAvailable := false }) (fun t =>
      t.tc.cmd.result == 1 && configWord t == 0x12 && !t.tc.cfg.dmaAlloc) = true := by decide

/-- V-CFG-5: the channel stays allocated. -/
theorem test_set_strategy_keeps_channel :
    ends (cmd 0x02 { rst with tc.cmd.arg0 := 2, tc.cfg.dmaAlloc := true, tc.port.dmaAvailable := false })
      (fun t => t.tc.cmd.result == 1 && t.tc.cfg.strategy == .dma) = true := by decide

/-- E4. -/
theorem test_set_strategy_refused :
    ends (cmd 0x02 { rst with tc.cmd.arg0 := 1, tc.cmd.result := 7, tc.port.linkBusy := true }) (fun t =>
      t.tc.cmd.result == 0 && t.tc.cfg.strategy == .immediate) = true := by decide

/-- V-CFG-8. -/
theorem test_set_rate :
    ends (cmd 0x03 { rst with tc.cmd.arg0 := 400000 }) (fun t =>
      t.tc.cmd.result == 1 && t.tc.cfg.rate == 400000 && t.tc.link.sent == [.rate 400000]) = true := by decide

/-- V-TX-1. -/
theorem test_begin_write_top_address :
    ends (cmd 0x10 { rst with tc.cmd.arg0 := 0x7F }) (fun t =>
      t.tc.buf.txbuf.read 0 == some 0xFE && t.tc.buf.txlen == 1 && t.tc.cmd.result == 1) = true := by decide

/-- V-SLV-12. -/
theorem test_begin_write_slave_rejected :
    ends (cmd 0x10 slave) (fun t => t.tc.cmd.reject && t.tc.buf.txlen == 0) = true := by decide

/-- V-TX-2. -/
theorem test_write_byte_without_begin :
    ends (cmd 0x11 { rst with tc.cmd.arg0 := 1, tc.cmd.result := 7 }) (fun t =>
      t.tc.cmd.result == 0 && t.tc.buf.txlen == 0) = true := by decide

/-- V-TX-3. -/
theorem test_write_byte_overflow :
    ends (cmd 0x11 { filled with par.txExtra := 2, tc.cmd.arg0 := 5, tc.cmd.result := 7 }) (fun t =>
      t.tc.cmd.result == 0 && t.tc.xfer.ovf && t.tc.buf.txlen == 4) = true := by decide

/-- V-ENC-3. -/
theorem test_write_bytes_order :
    ends (cmd 0xC12 { filled with tc.buf.txlen := 1, tc.cmd.arg0 := 0xDDCCBBAA }) (fun t =>
      t.tc.buf.txbuf == [(0, 0xA0), (1, 0xAA), (2, 0xBB), (3, 0xCC), (4, 0xDD)] && t.tc.cmd.result == 4) =
      true := by decide

/-- V-TX-4. -/
theorem test_write_bytes_short_count :
    ends (cmd 0x812 { filled with par.txExtra := 2, tc.buf.txlen := 3, tc.cmd.arg0 := 0x000C0B0A }) (fun t =>
      t.tc.cmd.result == 1 && t.tc.buf.txbuf.read 3 == some 0x0A && t.tc.buf.txlen == 4 && t.tc.xfer.ovf) =
      true := by decide

/-- E2, instance B. -/
theorem test_end_write_zero_length :
    ends (cmd 0x113 { rst with tc.cmd.result := 7 }) (fun t =>
      t.tc.cmd.result == 0 && !t.tc.cmd.busy && t.tc.link.sent == []) = true := by decide

/-- P5's acceptance: the budget is ARG2. -/
theorem test_end_write_accepted :
    ends (cmd 0x113 { filled with tc.cmd.arg2 := 1000 }) (fun t =>
      t.tc.cmd.busy && t.tc.cmd.op == .acq && t.tc.cmd.budget == 1000 && t.tc.xfer.eff == .immediate &&
        t.tc.xfer.stopReq) = true := by decide

/-- V-ACQ-1: escalation. -/
theorem test_send_write_escalates :
    ends (cmd 0x114 { filled with tc.cfg.strategy := .interrupt, tc.cfg.irqPrio := 3, hostPrio := 5 }) (fun t =>
      t.tc.cfg.irqPrio == 6 && t.tc.xfer.eff == .interrupt && !t.tc.cmd.blocking) = true := by decide

/-- V-ACQ-2: no headroom. -/
theorem test_send_write_forced_immediate :
    ends (cmd 0x114 { filled with tc.cfg.strategy := .interrupt, tc.cfg.irqPrio := 15, hostPrio := 15 })
      (fun t => t.tc.cfg.irqPrio == 15 && t.tc.xfer.eff == .immediate && t.tc.cmd.blocking) = true := by decide

/-- V-RX-2. -/
theorem test_read_over_capacity :
    ends (cmd 0x115 { rst with tc.cmd.arg0 := 0x50, tc.cmd.arg1 := 33 }) (fun t =>
      t.tc.xfer.status == .bufferOverflow && t.tc.cmd.result == 1 && !t.tc.cmd.busy) = true := by decide

/-- E2, instance C. -/
theorem test_read_zero_keeps_status :
    ends (cmd 0x115 { rst with tc.xfer.status := .timeout, tc.cmd.result := 7 }) (fun t =>
      t.tc.xfer.status == .timeout && t.tc.cmd.result == 0) = true := by decide

/-- V-ACQ-6: the DMA floor of a receive. -/
theorem test_send_read_dma_floor :
    (ends (cmd 0x116 { rst with
        tc.cfg.strategy := .dma, tc.cfg.irqPrio := 8, tc.cfg.dmaThresh := 1, tc.cmd.arg1 := 1 })
      (fun t => t.tc.xfer.eff == .interrupt) &&
    ends (cmd 0x116 { rst with
        tc.cfg.strategy := .dma, tc.cfg.irqPrio := 8, tc.cfg.dmaThresh := 1, tc.cmd.arg1 := 2 })
      (fun t => t.tc.xfer.eff == .dma)) = true := by decide

/-- V-RX-16. -/
theorem test_send_read_slave_rejected :
    ends (cmd 0x116 { slave with tc.cmd.arg1 := 1 }) (fun t => t.tc.cmd.reject && !t.tc.cmd.busy) = true := by
  decide

/-- V-RX-10. -/
theorem test_await_nothing_active :
    ends (cmd 0x17 { rst with tc.cmd.result := 7 }) (fun t => t.tc.cmd.result == 0 && !t.tc.cmd.busy) = true := by
  decide

/-- V-RX-11. -/
theorem test_await_rejected : ends (cmd 0x17 sending) (fun t => t.tc.cmd.reject) = true := by decide

/-- 45 R250's example. -/
theorem test_slave_release_sends_first_byte :
    ends (cmd 0x20 { slave with
        tc.slave.hold := .sreq, tc.buf.txbuf := [(0, 0x5A)], tc.buf.txlen := 1 })
      (fun t => t.tc.link.sent == [.write 0x5A] && t.tc.slave.hold == .none) = true := by decide

/-- V-SLV-14. -/
theorem test_slave_release_empty_buffer :
    ends (cmd 0x20 { slave with tc.slave.hold := .sreq }) (fun t => t.tc.link.sent == [.write 0]) = true := by
  decide

/-- V-REC-1, the command. -/
theorem test_reset_bus_starts :
    ends (cmd 0x30 rst) (fun t =>
      t.tc.link.sent == [.pins true, .sdaRelease, .sclRelease] && t.tc.cmd.op == .recover && t.tc.rcv.pinsGpio) =
      true := by decide

/-- V-REC-5. -/
theorem test_reset_bus_hold_rejected :
    ends (cmd 0x30 { slave with tc.slave.hold := .srx }) (fun t => t.tc.cmd.reject && !t.tc.cmd.busy) = true := by
  decide

/-- V-ENC-10: it runs while a command is in progress. -/
theorem test_reset_errcnt_while_busy :
    ends (cmd 0x31 { sending with tc.cmd.arg0 := 3, tc.err.dataNak := 2, tc.err.addrNak := 5 }) (fun t =>
      t.tc.err.dataNak == 0 && t.tc.err.addrNak == 5 && !t.tc.cmd.reject) = true := by decide

/-- V-TEL-3. -/
theorem test_reset_errcnt_index_seven :
    ends (cmd 0x31 { rst with tc.cmd.arg0 := 7, tc.err.dmaErr := 1 }) (fun t => t.tc.err.dmaErr == 1) = true := by
  decide

/-- 60 R298's example. -/
theorem test_eoi : ends (cmd 0x3F { rst with tc.ev.isrDepth := 1 }) (fun t => t.tc.ev.isrDepth == 0) = true := by
  decide

/-- V-EXC-6. -/
theorem test_eoi_at_zero : ends (cmd 0x3F rst) (fun t => t.tc.ev.isrDepth == 0) = true := by decide

/-! ### Registers -/

/-- V-ENC-5: STATUS after an illegal opcode. -/
theorem test_status_after_illegal :
    ends (cmd 0x00 rst) (fun t => statusWord t == 0x80000010) = true := by decide

/-- V-ENC-7 and V-ENC-8. -/
theorem test_status_write_clears :
    (ends (hostWrite 0x14 4 0x40000000 { rst with tc.cmd.illegal := true }) (fun t => t.tc.cmd.illegal) &&
    ends (hostWrite 0x14 4 0x80000000 { rst with tc.cmd.illegal := true }) (fun t => statusWord t == 0x10)) =
      true := by decide

/-- V-ENC-11 and V-ENC-12. -/
theorem test_host_access_faults :
    hostRead 0x02 4 rst = .fault (.hostAccess 0x02) ∧ hostWrite 0x14 2 0 rst = .fault (.hostAccess 0x14) :=
  ⟨rfl, rfl⟩

/-- V-TEL-1, the pop and the empty read. -/
theorem test_rxdata :
    (ends (hostRead 0x44 4 { rst with tc.buf.rxbuf := [(0, 0x11), (1, 0x22)], tc.buf.rxlen := 2 }) (fun t =>
      t.rdata == some 0x11 && t.tc.buf.rxidx == 1) &&
    ends (hostRead 0x44 4 rst) (fun t => t.rdata == some 0xFFFFFFFF)) = true := by decide

/-- V-TEL-4. -/
theorem test_irq_prio_capped :
    ends (hostWrite 0x30 4 99 rst) (fun t => t.tc.cfg.irqPrio == 15) = true := by decide

/-- V-EXC-5 and V-EXC-7. -/
theorem test_claim :
    (ends (hostRead 0x3C 4 { rst with tc.ev.isrDepth := 255, tc.ev.irqPend := 1, tc.cfg.irqEn := 1 }) (fun t =>
      t.rdata == some 1 && t.tc.ev.isrDepth == 255) &&
    ends (hostRead 0x3C 4 { rst with tc.ev.irqPend := 4 }) (fun t =>
      t.rdata == some 0 && t.tc.ev.irqPend == 4)) = true := by decide

/-- P1: instance 1 is reached at 0x100. -/
theorem test_second_instance :
    ends (hostAccess (.write (.abs 0x134) 4 1) rst) (fun t =>
      t.before.length == 1 && t.tc.base == 0x100 && t.tc.cfg.irqEn == 1) = true := by decide

/-- 20 R70: `BASE[0] + 0x134` is a number in the block of instance 1 (log 11). -/
theorem test_offset_beyond_block :
    ends (hostAccess (.write (.reg 0 0x134) 4 1) rst) (fun t =>
      t.before.length == 1 && t.tc.base == 0x100 && t.tc.cfg.irqEn == 1) = true := by decide

/-! ### Event rules -/

/-- V-ACQ-11: the free bus wins; P1: START and the address byte. -/
theorem test_acquire_free_bus :
    ends (stepRule .acquire { acquiring with tc.cmd.budget := 1, nowUs := 9 }) (fun t =>
      t.tc.link.sent == [.start, .write 0xA0] && t.tc.xfer.status == .sending && t.tc.cmd.op == .xfer) =
      true := by decide

/-- V-ACQ-9. -/
theorem test_acquire_gives_up :
    ends (stepRule .acquire { acquiring with
        tc.port.linkBusy := true, tc.cmd.budget := 100, nowUs := 100, tc.cfg.irqEn := 0x10 })
      (fun t => t.tc.xfer.status == .busNotAcquired && t.tc.err.acqFail == 1 && t.tc.ev.irqPend == 0x10 &&
        t.tc.cmd.result == 4 && t.tc.link.sent == []) = true := by decide

/-- 46 R273: 4 if the acquisition failed, here after an overflow (log 18). -/
theorem test_acquire_gives_up_after_overflow :
    ends (stepRule .acquire { acquiring with
        tc.port.linkBusy := true, tc.cmd.budget := 100, nowUs := 100, tc.xfer.ovf := true })
      (fun t => t.tc.cmd.result == 4 && errCode t == 1) = true := by decide

/-- V-REC-2: the tenth sample. -/
theorem test_recovery_stuck :
    ends (stepRule .recover { recovering with tc.rcv.k := 9 }) (fun t =>
      t.tc.cmd.result == 0x109 && t.tc.rcv.stuck && t.tc.err.busReset == 1 && !t.tc.cmd.busy) = true := by decide

/-- E3, instances A and B. -/
theorem test_nak_index :
    (ends (stepRule .txDone { sending with tc.port.lev := some (.tc false true) }) (fun t =>
      t.tc.xfer.status == .addrNak && t.tc.cmd.result == 2 && t.tc.err.addrNak == 1 && t.tc.link.sent == [.stop]) &&
    ends (stepRule .txDone { sending with tc.port.lev := some (.tc false true), tc.buf.txidx := 2 }) (fun t =>
      t.tc.xfer.status == .dataNak && t.tc.cmd.result == 3 && t.tc.err.dataNak == 1)) = true := by decide

/-- V-TX-8: arbitration is checked first. -/
theorem test_arbitration_first :
    ends (stepRule .txDone { sending with tc.port.lev := some (.tc true true), tc.buf.txidx := 1 }) (fun t =>
      t.tc.xfer.status == .arbitrationLost && t.tc.err.dataNak == 0 && t.tc.err.arbLost == 1 &&
        t.tc.link.sent == [] && t.tc.cmd.result == 4) = true := by decide

/-- V-TX-9: success without STOP keeps the bus. -/
theorem test_transmit_keeps_bus :
    ends (stepRule .txDone { sending with
        tc.port.lev := some (.tc false false), tc.port.linkBusy := true, tc.buf.txidx := 3, tc.xfer.stopReq := false })
      (fun t => statusWord t == 0x70 && t.tc.cmd.result == 0 && t.tc.link.sent == []) = true := by decide

/-- E5: the NAK is armed one byte ahead. -/
theorem test_receive_arms_nak :
    (ends (stepRule .rxByte { receiving with tc.port.lev := some (.rc false 0x11) }) (fun t =>
      t.tc.link.sent == [.recv false]) &&
    ends (stepRule .rxByte { receiving with
        tc.buf.rxbuf := [(0, 0x11)], tc.buf.rxlen := 1, tc.port.lev := some (.rc false 0x22) })
      (fun t => t.tc.link.sent == [.recv true] && t.tc.buf.rxbuf == [(0, 0x11), (1, 0x22)])) = true := by decide

/-- P7 at time 500: the timeout only arms the flag and counts. -/
theorem test_timeout_arms :
    ends (stepRule .timeout { receiving with tc.cmd.budget := 500, nowUs := 500 }) (fun t =>
      t.tc.xfer.toFlag && t.tc.err.timeout == 1 && t.tc.xfer.status == .receiving && t.tc.link.sent == []) =
      true := by decide

/-- V-DMA-3: DMA_DONE at the write of the last element. -/
theorem test_dma_last_element :
    ends (dmaAgent .txElement bulk) (fun t =>
      t.tc.link.sent == [.write 0x02] && t.tc.port.dev == some .done && t.tc.dma.next == 3) = true := by decide

/-- V-DMA-3: DMA_DONE. -/
theorem test_dma_done :
    ends (stepRule .dmaDone { bulk with tc.port.dev := some .done }) (fun t =>
      t.tc.xfer.dmaPhase == .last && t.tc.buf.txidx == 2 && t.tc.link.sent == [.dmaDisable]) = true := by decide

/-- V-DMA-6: arbitration is checked first. -/
theorem test_dma_error_arbitration :
    ends (stepRule .dmaError { bulk with tc.port.dev := some .err, tc.port.linkArbl := true }) (fun t =>
      t.tc.xfer.status == .arbitrationLost && t.tc.err.arbLost == 1 && t.tc.err.dmaErr == 0) = true := by decide

/-- V-SLV-2: the range in either order. -/
theorem test_range_match :
    addrMatches { slave with tc.cfg.rangeEn := true, tc.cfg.addr1 := 0x60, tc.cfg.addr2 := 0x50 } 0x58 = true ∧
      addrMatches slave 0x51 = false := by decide

/-- V-SLV-5: step A leaves the address in the slot. -/
theorem test_boundary_first :
    ends (stepRule .boundary { slave with
        tc.cfg.irqEn := 1, tc.xfer.status := .slaveRx, tc.buf.rxlen := 2, tc.port.lev := some (.addr 0x50 true) })
      (fun t => t.tc.slave.srxCount == 2 && t.tc.ev.irqPend == 1 && t.tc.slave.hold == .srx &&
        t.tc.port.lev == some (.addr 0x50 true)) = true := by decide

/-- V-SLV-7: the watch is torn down at the second edge. -/
theorem test_spurious_edges :
    ends (stepRule .sdaEdge { slave with
        tc.xfer.status := .slaveRx, tc.slave.watchArmed := true, tc.slave.spuriousCnt := 1, tc.port.sdaRise := true,
        tc.port.linkBusy := true })
      (fun t => t.tc.slave.spuriousCnt == 2 && !t.tc.slave.watchArmed && t.tc.xfer.status == .slaveRx) = true := by
  decide

/-- V-EXC-8: the grant is strict. -/
theorem test_grant_strict :
    stepRule .txDone
      { bulk with
        tc.xfer.dmaPhase := .last
        tc.cfg.irqPrio := 3
        hostPrio := 3
        tc.port.lev := some (.tc false false) } = .refused (.notEnabled .txDone) := rfl

/-- V-ACQ-8: budget 0 and a bus that never frees, with the host polling: stuck; and E1's end is completed. -/
theorem test_run_ends :
    hostWaits
        { acquiring with tc.port.linkBusy := true, script := [.host (.read (.reg 0 0x14) 4)] } = true ∧
      everyInstance instanceQuiet { acquiring with tc.port.linkBusy := true } = true ∧
      runCompleted filled = true ∧ runCompleted sending = false ∧
      hostWaits { sending with
        script := [.host (.read (.reg 0 0x14) 4), .bus 0 (.deliver (.tc false false))] } = false ∧
      runCompleted { slave with tc.link.slaveByte := true } = true := by decide

/-- 40 R120, 10 R32: CONFIGURE leaves the slot `lev` as it is, and a stop in it waits for its own rule (45 R251). -/
theorem test_configure_keeps_slot :
    ends (exec .configure { slave with tc.port.lev := some .stopf, tc.cmd.arg0 := 0x12 }) (fun t =>
      t.tc.cfg.mode == .master && t.tc.port.lev == some .stopf &&
        ends (stepRule .stopDetect t) (fun u => u.tc.port.lev == none && u.tc.xfer.status == .waiting)) = true := by
  decide

/-- 40 R120, 45 R245, R247: with `link_busy = 0` a CONFIGURE to master is accepted while an address match waits, and the
match is then dispatched with its whole effect, R245 naming no mode (log 15). -/
theorem test_address_left_over :
    ends (exec .configure
        { slave with tc.port.lev := some (.addr 0x50 true), tc.cmd.arg0 := 0x12, tc.cfg.irqEn := 2 })
      (fun t => t.tc.cmd.result == 1 && t.tc.cfg.mode == .master &&
        ends (stepRule .dispatch t) (fun u => u.tc.port.lev == none && u.tc.slave.rxaddr == 0x50 &&
          u.tc.slave.hold == .sreq && u.tc.xfer.status == .slaveTx && u.tc.ev.irqPend == 2)) = true := by
  decide

/-- V-RST-1: every register after reset. -/
theorem test_reset_registers :
    statusWord rst = 0x10 ∧ configWord rst = 0x10 ∧ rst.tc.cfg.dmaThresh = 5 ∧ rst.tc.cfg.irqPrio = 0 ∧
      errCode rst = 0 ∧ tcCanStep rst = false := by decide

/-! ### Witnesses: for each statement, states and operands that meet the hypotheses of each of its clauses -/

/-- The answer is a next state. -/
def isNext (r : Result) : Bool := ends r fun _ => true

theorem witness_EncodeDecodeRoundTrip :
    (Instr.writeBytes 4).wf = true ∧ (Instr.endWrite true true).wf = true := by decide

theorem witness_CommandWordFields :
    (0xFFFFF113 : Word) &&& 0x00000FFF = (0x00000113 : Word) &&& 0x00000FFF ∧
    (0xFFFFFC12 : Word) &&& 0x000000FF = 0x00000012 ∧
    ([0x01, 0x02, 0x03, 0x10, 0x11, 0x13, 0x14, 0x15, 0x16, 0x17, 0x20, 0x30, 0x31, 0x3F] : List Word).all
      (fun o => (o ||| 0xFFFFFF00) &&& 0x000000FF == o) = true := by decide

theorem witness_DecodedCommandsAreWellFormed : decode 0xFFFFFC12 = .ok (.writeBytes 4) := by decide

theorem witness_IllegalOpcodeSetsFlagOnly :
    ([0x00, 0x04, 0x0F, 0x18, 0x1F, 0x21, 0x2F, 0x32, 0x3E, 0x40, 0xFF, 0xFFFFFF40] : List Word).all
      (fun w => ends (cmd w rst) fun t => t.tc.cmd.illegal) = true := by decide

theorem witness_StepRunsDecodedCommand :
    decode 0x812 = .ok (.writeBytes 3) ∧
    { rst with script := [cmdWrite 0x812 rst] }.script = cmdWrite 0x812 { rst with script := [] } :: [] ∧
    decodeTableWord 12 0x812 = some (.writeBytes 3) := by decide

theorem witness_CommandAcceptance :
    decode 0x113 = .ok (.endWrite true false) ∧ decode 0xFF = .error (.illegalOpcode 0xFF) ∧
    isHousekeeping (.await true) = false ∧ sending.tc.cmd.busy = true ∧ masterActive sending = true ∧
    slave.tc.cfg.mode = .slave ∧ isTransferStart (.sendRead true) = true ∧
    { slave with tc.slave.hold := .sreq }.tc.slave.hold ≠ .none ∧
    isHousekeeping .eoi = true ∧ isNext (exec .eoi sending) = true := by decide

theorem witness_ConfigRefusedWhileBusBusy :
    rst.tc.cmd.busy = false ∧ { rst with tc.port.linkBusy := true }.tc.port.linkBusy = true ∧
    masterActive { rst with tc.port.linkBusy := true } = false := by decide

theorem witness_ConfigureEffect :
    masterActive sending = true ∧ { rst with tc.port.linkBusy := true }.tc.port.linkBusy = true ∧
    rst.tc.cmd.busy = false ∧ masterActive rst = false ∧ rst.tc.port.linkBusy = false ∧
    { rst with tc.cmd.arg0 := 0x16 }.tc.cmd.arg0.extractLsb' 1 2 = 3 ∧
    { rst with tc.cmd.arg0 := 0x14 }.tc.cmd.arg0.extractLsb' 1 2 = 2 ∧
    { rst with tc.cmd.arg0 := 0x13 }.tc.cmd.arg0.extractLsb' 1 2 = 1 ∧
    rst.tc.cmd.arg0.extractLsb' 1 2 = 0 := by decide

theorem witness_SetStrategyEffect :
    { rst with tc.port.linkBusy := true }.tc.port.linkBusy = true ∧
    rst.tc.cmd.busy = false ∧ rst.tc.port.linkBusy = false ∧
    { rst with tc.cmd.arg0 := 3 }.tc.cmd.arg0.extractLsb' 0 2 = 3 ∧
    { rst with tc.cmd.arg0 := 2 }.tc.cmd.arg0.extractLsb' 0 2 = 2 ∧
    { rst with tc.cmd.arg0 := 1 }.tc.cmd.arg0.extractLsb' 0 2 = 1 ∧
    rst.tc.cmd.arg0.extractLsb' 0 2 = 0 := by decide

theorem witness_SetRateEffect :
    rst.tc.cmd.busy = false ∧ rst.tc.port.linkBusy = false ∧
    { rst with tc.port.linkBusy := true }.tc.port.linkBusy = true := by decide

theorem witness_BeginWriteEffect :
    slave.tc.cfg.mode = .slave ∧ masterActive sending = true ∧ rst.tc.cmd.busy = false ∧
    rst.tc.cfg.mode = .master ∧ masterActive rst = false := by decide

/-- One free cell, and none. -/
theorem witness_WriteByteEffect :
    masterActive sending = true ∧
    rst.tc.cmd.busy = false ∧ masterActive rst = false ∧ rst.tc.cfg.mode = .master ∧ rst.tc.buf.txlen = 0 ∧
    { filled with tc.buf.txlen := 31 }.tc.buf.txlen < rstPar.txCap ∧
    rstPar.txCap ≤ { filled with tc.buf.txlen := 32 }.tc.buf.txlen ∧ slave.tc.cfg.mode = .slave := by decide

theorem witness_WriteBytesEffect :
    masterActive sending = true ∧
    filled.tc.cmd.busy = false ∧ masterActive filled = false ∧ filled.tc.buf.txlen ≠ 0 ∧
    rst.tc.cfg.mode = .master ∧ rst.tc.buf.txlen = 0 := by decide

theorem witness_RefusedTransferStarts :
    rst.tc.cmd.busy = false ∧ rst.tc.cfg.mode = .master ∧ masterActive rst = false ∧ rst.tc.buf.txlen = 0 ∧
    rst.tc.cmd.arg1 = 0 ∧ rstPar.rxCap < { rst with tc.cmd.arg1 := 33 }.tc.cmd.arg1.toNat := by decide

/-- The least transmit, and receives of 1 and of RX_CAP bytes. -/
theorem witness_StartTransferEffect :
    filled.tc.cmd.busy = false ∧ filled.tc.cfg.mode = .master ∧ masterActive filled = false ∧
    0 < { filled with tc.buf.txlen := 1 }.tc.buf.txlen ∧ (1 : Word) ≠ 0 ∧ (1 : Word).toNat ≤ rstPar.rxCap ∧
    (32 : Word).toNat ≤ rstPar.rxCap := by decide

/-- Priorities equal, at PRIO_MAX, and one apart. -/
theorem witness_EffectiveStrategy :
    let s : State := { rst with tc.cfg.strategy := .dma }
    rst.tc.cfg.strategy = .immediate ∧ s.tc.cfg.strategy ≠ .immediate ∧
    (s.tc.cfg.prioChk = true ∧ s.tc.ev.isrDepth = 0 ∧ s.tc.cfg.irqPrio ≤ s.hostPrio ∧
      s.hostPrio < s.par.prioMax) ∧
    s.par.prioMax ≤ { s with hostPrio := 15 }.hostPrio ∧
    ¬ ({ s with tc.cfg.irqPrio := 1 }.tc.cfg.irqPrio ≤ s.hostPrio) := by decide

theorem witness_AwaitEffect :
    rst.tc.cmd.busy = false ∧ masterActive rst = false ∧ { sending with tc.cmd.busy := false }.tc.cmd.busy = false ∧
    masterActive { sending with tc.cmd.busy := false } = true := by decide

theorem witness_SlaveReleaseEffect :
    rst.tc.slave.hold = .none ∧ { slave with tc.slave.hold := .srx }.tc.slave.hold = .srx ∧
    { slave with tc.slave.hold := .sreq }.tc.buf.txlen = 0 ∧ 0 < filled.tc.buf.txlen ∧
    { filled with tc.slave.hold := .sreq }.tc.slave.hold = .sreq ∧ filled.tc.buf.txbuf.read 0 = some 0xA0 ∧
    { filled with tc.slave.hold := .sreq, tc.buf.txbuf := [] }.tc.buf.txbuf.read 0 = none := by
  decide

theorem witness_ResetBusEffect :
    rst.tc.cmd.busy = false ∧ masterActive rst = false ∧ rst.tc.slave.hold = .none := by decide

theorem witness_CommandsFrame :
    isNext (exec .beginWrite rst) = true ∧ isNext (exec .writeByte filled) = true ∧
    isNext (exec (.writeBytes 4) filled) = true ∧ isNext (exec .resetErrcnt rst) = true ∧
    isNext (exec .eoi rst) = true ∧ isNext (exec (.read true true) rst) = true := by decide

theorem witness_ErrorCodePrecedence :
    sending.tc.xfer.status ∈ [Status.sending, .sendAddr, .receiving, .slaveTx, .slaveRx] ∧
    { rst with tc.xfer.ovf := true, tc.xfer.status := .addrNak }.tc.xfer.ovf = true ∧
    { rst with tc.xfer.status := .dataNak }.tc.xfer.ovf = false ∧
    Status.dmaError ∈ [Status.arbitrationLost, .timeout, .busNotAcquired, .dmaError] ∧
    rst.tc.xfer.status = .waiting := by decide

theorem witness_RegisterAccessFrame :
    isNext (hostWrite 0x24 4 1 rst) = true ∧ isNext (hostRead 0x3C 4 rst) = true ∧
    isNext (hostRead 0x44 4 rst) = true ∧ (0x10 : Nat) % 4 = 0 ∧ (0x8C : Nat) % 4 = 0 := by decide

theorem witness_ReceiveBufferReads :
    let s : State := { rst with tc.buf.rxbuf := [(0, 0x11)], tc.buf.rxlen := 1 }
    s.tc.buf.rxidx < s.tc.buf.rxlen ∧ s.tc.buf.rxbuf.read s.tc.buf.rxidx = some 0x11 ∧
    rst.tc.buf.rxlen ≤ rst.tc.buf.rxidx ∧
    { s with tc.buf.rxbuf := [] }.tc.buf.rxbuf.read s.tc.buf.rxidx = none := by decide

theorem witness_ClaimOpensHandler :
    let s : State := { rst with tc.ev.irqPend := 1, tc.cfg.irqEn := 1 }
    rst.tc.ev.irqPend &&& rst.tc.cfg.irqEn = 0 ∧ s.tc.ev.irqPend &&& s.tc.cfg.irqEn ≠ 0 := by decide

theorem witness_RaiseRespectsEnable :
    rst.tc.cfg.irqEn.getLsbD 4 = false ∧ { rst with tc.cfg.irqEn := 0x10 }.tc.cfg.irqEn.getLsbD 4 = true := by
  decide

theorem witness_CountersNeverFall :
    isNext (exec .configure rst) = true ∧
    isNext (busMove (.rule .timeout) { receiving with tc.cmd.budget := 500, nowUs := 500 }) = true ∧
    isNext (hostRead 0x70 4 rst) = true := by decide

/-- A step of each class. -/
theorem witness_StepClassGuards :
    isNext (stepRule .dmaDone { bulk with tc.port.dev := some .done }) = true ∧
    isNext (stepRule .txDone { bulk with
      tc.xfer.dmaPhase := .last, tc.port.lev := some (.tc false false) }) = true ∧
    isNext (stepRule .acquire acquiring) = true := by decide

theorem witness_AcquisitionPoll :
    acquiring.tc.cmd.busy = true ∧ acquiring.tc.cmd.op = .acq ∧ acquiring.tc.rcv.step = .idle ∧
    acquiring.tc.xfer.masterHeld = false ∧ acquiring.tc.port.linkBusy = false ∧
    acquiring.tc.cmd.kind = .tx ∧ acquiring.tc.buf.txbuf.read 0 = some 0xA0 ∧
    { acquiring with tc.cmd.kind := .rx }.tc.cmd.kind = .rx ∧
    expired { acquiring with tc.port.linkBusy := true } = false ∧
    expired { acquiring with tc.cmd.budget := 100, nowUs := 100 } = true ∧
    acquiring.tc.cfg.autoRetry = false ∧ acquiring.tc.cmd.acqRetried = false ∧
    ruleEnabled .acquire acquiring = true := by decide

/-- The bounded wait ends exactly at its bound, and not before. -/
theorem witness_RecoverySteps :
    recovering.tc.cmd.busy = true ∧ recovering.tc.cmd.op = .recover ∧ recovering.tc.rcv.step = .sample ∧
    recovering.tc.port.sda = false ∧ recovering.tc.rcv.k ≠ 9 ∧ recovering.tc.rcv.internal = false ∧
    { recovering with tc.rcv.k := 9 }.tc.rcv.k = 9 ∧
    (let h : State :=
      { recovering with tc.rcv.step := .high, tc.port.scl := false, par.sclWait := .bounded 49 }
    isNext (stepRule .recover { h with nowUs := 50 }) = true ∧
      stepRule .recover { h with nowUs := 49 } = .refused (.notEnabled .recover)) := by
  refine ⟨rfl, rfl, rfl, rfl, by decide, rfl, rfl, by decide, rfl⟩

theorem witness_StartOnlyOnFreeBus :
    isNext (busMove (.rule .acquire) acquiring) = true ∧
    isNext (busMove (.rule .acquire) { acquiring with tc.xfer.masterHeld := true }) = true ∧
    isNext (exec .resetBus rst) = true := by decide

theorem witness_TimeoutApplication :
    let s : State := { receiving with tc.cmd.budget := 500, nowUs := 500 }
    s.tc.cmd.busy = true ∧ s.tc.cmd.op = .xfer ∧ s.tc.xfer.status ∈ [Status.sending, .sendAddr, .receiving] ∧
    s.tc.cmd.budget ≠ 0 ∧ s.tc.cmd.budget.toNat ≤ (s.nowUs - s.tc.cmd.t0).toNat ∧
    s.tc.xfer.toApplied = false := by decide

theorem witness_TransmitCompletion :
    let at_ (i : Nat) (arbl rxak toFlag : Bool) : State :=
      { sending with tc.port.lev := some (.tc arbl rxak), tc.buf.txidx := i, tc.xfer.toFlag := toFlag }
    ruleEnabled .txDone (at_ 0 true true true) = true ∧ ruleEnabled .txDone (at_ 0 false true true) = true ∧
    ruleEnabled .txDone (at_ 0 false true false) = true ∧ ruleEnabled .txDone (at_ 1 false true false) = true ∧
    ruleEnabled .txDone (at_ 2 false false false) = true ∧ sending.tc.buf.txbuf.read 3 = some 0x03 ∧
    ruleEnabled .txDone (at_ 3 false false false) = true ∧
    ruleEnabled .txDone
      { bulk with tc.xfer.dmaPhase := .addr, tc.port.lev := some (.tc false false) } = true := by decide

theorem witness_FinalizeEffect :
    (sending.tc.cmd.busy = true ∧ sending.tc.cmd.op = .xfer) ∧ ¬ (rst.tc.cmd.busy = true) := by decide

theorem witness_PortCommandEffects : rst.tc.cfg.mode = .master ∧ slave.tc.cfg.mode = .slave := by decide

theorem witness_AddressPhaseCompletion :
    let s (arbl rxak toFlag : Bool) : State :=
      { receiving with
        tc.xfer.status := .sendAddr, tc.port.lev := some (.tc arbl rxak), tc.xfer.toFlag := toFlag }
    ruleEnabled .addrDone (s true false false) = true ∧ ruleEnabled .addrDone (s false true true) = true ∧
    ruleEnabled .addrDone (s false true false) = true ∧ ruleEnabled .addrDone (s false false true) = true ∧
    ruleEnabled .addrDone (s false false false) = true ∧ receiving.tc.xfer.dmaPhase ≠ .addr ∧
    ruleEnabled .addrDone
      { bulk with
        tc.xfer.status := .sendAddr, tc.xfer.dmaPhase := .addr, tc.port.lev := some (.tc false false) } = true := by
  decide

/-- The last cell of the receive buffer is free. -/
theorem witness_ReceiveCompletion :
    let s (arbl nak toFlag : Bool) : State :=
      { receiving with
        tc.port.lev := some (.rc arbl 0x11), tc.xfer.inflightNak := nak, tc.xfer.toFlag := toFlag,
        tc.buf.rxlen := 31 }
    ruleEnabled .rxByte (s true false false) = true ∧ ruleEnabled .rxByte (s false false true) = true ∧
    ruleEnabled .rxFinal (s true true false) = true ∧ ruleEnabled .rxFinal (s false true true) = true ∧
    ruleEnabled .rxFinal (s false true false) = true ∧ (s false false false).tc.buf.rxlen < rstPar.rxCap := by
  decide

theorem witness_StopAtTransmitEnd :
    ends (stepRule .txDone { sending with tc.port.lev := some (.tc false false), tc.buf.txidx := 3 })
      (fun t => !masterActive t) = true := by decide

theorem witness_ErrorEventWithFault :
    ends (stepRule .txDone { sending with tc.port.lev := some (.tc true false), tc.cfg.irqEn := 0x10 })
      (fun t => t.tc.xfer.status == .arbitrationLost && t.tc.ev.irqPend.getLsbD 4) = true ∧
    sending.tc.ev.irqPend.getLsbD 4 = false := by decide

theorem witness_DmaEvents :
    bulk.hostPrio < bulk.tc.cfg.irqPrio ∧ bulk.tc.xfer.dmaPhase = .bulk ∧ masterActive bulk = true ∧
    isNext (stepRule .bulkError { bulk with tc.port.lev := some (.tc true false) }) = true ∧
    isNext (stepRule .bulkError { bulk with tc.port.lev := some (.rc true 0) }) = true ∧
    isNext (stepRule .bulkError { bulk with tc.port.lev := some (.tc false true) }) = true ∧
    isNext (stepRule .dmaDone { bulk with tc.port.dev := some .done, tc.cmd.kind := .rx }) = true ∧
    isNext (stepRule .dmaError { bulk with tc.port.dev := some .err }) = true ∧
    isNext (stepRule .dmaStale { bulk with tc.port.dev := some .err, tc.xfer.dmaPhase := .off }) = true ∧
    isNext (stepRule .dmaStale { bulk with tc.port.dev := some .done, tc.xfer.dmaPhase := .addr }) = true := by
  decide

theorem witness_DmaAgentSteps :
    let rx : State :=
      { bulk with
        tc.dma := { dir := .rx, next := 0, last := 0, enabled := true, ready := true, pending := false } }
    { bulk with tc.dma.enabled := false }.tc.dma.enabled = false ∧
    isNext (dmaAgent .txElement bulk) = true ∧ isNext (dmaAgent .rxIssue rx) = true ∧
    isNext (dmaAgent .error bulk) = true ∧ isNext (dmaAgent .error rx) = true ∧
    isNext (deliver (.tc false false) bulk) = true ∧
    isNext (deliver (.rc false 0x11)
      { rx with tc.dma.pending := true, tc.link.issued := [.recv] }) = true := by decide

theorem witness_LinkContractKept :
    isNext (deliver (.addr 0x50 true) slave) = true ∧
    isNext (deliver .stopf slave) = true ∧ isNext (deliver (.srx 1) slave) = true ∧
    isNext (deliver (.stx true) { slave with tc.link.slaveByte := true }) = true ∧
    isNext (deliver (.tc true false) sending) = true ∧ isNext (deliver (.rc false 1) receiving) = true ∧
    isNext (busMove (.linkBusy false) { slave with tc.port.lev := some (.addr 0x50 true) }) = true := by decide

theorem witness_SlaveAddressRules :
    let s (rw : Bool) : State := { slave with tc.port.lev := some (.addr 0x50 rw) }
    (s true).hostPrio < (s true).tc.cfg.irqPrio ∧ (s true).tc.slave.hold = .none ∧
    isNext (stepRule .boundary { s true with tc.xfer.status := .slaveRx }) = true ∧
    isNext (stepRule .dispatch { s true with tc.xfer.status := .slaveRx, tc.slave.boundaryDone := true }) = true ∧
    isNext (stepRule .dispatch (s false)) = true ∧
    isNext (stepRule .dispatch { s false with par.hasStopf := false }) = true ∧
    isNext (stepRule .dispatch { s true with tc.cfg.irqEn := 2 }) = true ∧
    isNext (stepRule .dispatch { s true with tc.cfg.mode := .master }) = true := by decide

/-- The last cell free and none free; the byte after the last one sent. -/
theorem witness_SlaveDataAndStop :
    let rx (n : Nat) : State :=
      { slave with tc.xfer.status := .slaveRx, tc.buf.rxlen := n, tc.port.lev := some (.srx 7) }
    let tx (i : Nat) (ack : Bool) : State :=
      { slave with
        tc.xfer.status := .slaveTx, tc.buf.txbuf := [(0, 1), (1, 2)], tc.buf.txlen := 2, tc.buf.txidx := i,
        tc.port.lev := some (.stx ack) }
    let edge (watch busy : Bool) : State :=
      { slave with tc.port.sdaRise := true, tc.slave.watchArmed := watch, tc.port.linkBusy := busy }
    isNext (stepRule .slaveRx (rx 31)) = true ∧ isNext (stepRule .slaveRx (rx 32)) = true ∧
    isNext (stepRule .slaveTx (tx 0 true)) = true ∧ isNext (stepRule .slaveTx (tx 1 true)) = true ∧
    isNext (stepRule .slaveTx (tx 0 false)) = true ∧
    isNext (stepRule .stopDetect { rx 0 with tc.port.lev := some .stopf }) = true ∧
    isNext (stepRule .stopDetect { tx 0 true with tc.port.lev := some .stopf }) = true ∧
    isNext (stepRule .stopDetect { slave with tc.port.lev := some .stopf }) = true ∧
    isNext (stepRule .sdaEdge (edge false false)) = true ∧ isNext (stepRule .sdaEdge (edge true false)) = true ∧
    isNext (stepRule .sdaEdge (edge true true)) = true ∧
    isNext (stepRule .unexpected { slave with tc.port.lev := some (.srx 7) }) = true ∧
    isNext (stepRule .unexpected { slave with tc.port.lev := some (.stx false) }) = true ∧
    isNext (stepRule .unexpected { slave with tc.port.lev := some (.tc false false) }) = true ∧
    isNext (stepRule .unexpected { slave with tc.port.lev := some (.rc true 7) }) = true ∧
    isNext (stepRule .unexpected (rx 0)) = false := by decide

theorem witness_HoldsAndSlaveErrors :
    { slave with tc.slave.hold := .srx }.tc.slave.hold ≠ .none ∧ isSlaveEvent .stopf = true ∧
    isNext (stepRule .unexpected { slave with tc.port.lev := some (.srx 1) }) = true := by decide

theorem witness_InstancesShareNoState :
    isNext (step { rst with script := [.bus 1 (.linkBusy true)] }) = true ∧
    isNext (step { rst with script := [.host (.write (.reg 1 0x04) 4 7)] }) = true ∧
    isNext (step { rst with script := [.hostPrio 1] }) = true ∧ isNext (step { rst with script := [.time 1] }) = true ∧
    (focusAt 1 rst).isSome = true ∧ (focusHost (.abs 0x40) rst).isSome = true := by decide

theorem witness_PowerOnReset : rst.par = rstPar ∧ rst.tc = Tc.reset rstPar 0 := ⟨rfl, rfl⟩

/-! ### Witnesses of the invariants -/

/-- An instance after reset with the parameters of RST meets the first invariant. -/
theorem tcInv_rst (b : Nat) : TcInv rstPar (Tc.reset rstPar b) := by
  constructor <;> simp [Tc.reset, CellsBelow, Memory.wf, statusMasterActive, rstPar, recoveryToggles]

/-- An instance after reset with the parameters of RST meets the second invariant. -/
theorem transferInv_rst (b : Nat) : TransferInv (Tc.reset rstPar b) := by
  constructor <;> simp [Tc.reset, CellsBelow, statusMasterActive, statusSlaveActive, awaitsBus]
  omega

/-- Two instances after reset with the parameters of RST. -/
def twoReset : List Tc := [Tc.reset rstPar 0, Tc.reset rstPar 0x100]

theorem fullInv_rst (s : State) (h : instances s = twoReset) (hp : s.par = rstPar) (h0 : s.hostPrio = 0) :
    FullInv s := by
  refine ⟨⟨by simp [h0], fun t ht => ?_⟩, fun t ht => ?_⟩ <;> rw [h] at ht <;>
    simp only [twoReset, List.mem_cons, List.not_mem_nil, or_false] at ht <;>
    rcases ht with rfl | rfl <;> (try rw [hp])
  · exact tcInv_rst 0
  · exact tcInv_rst 0x100
  · exact transferInv_rst 0
  · exact transferInv_rst 0x100

/-- RST with time about to pass meets the invariants and takes a step. -/
theorem witness_invariants : ∃ s t : State, FullInv s ∧ step s = .next t :=
  ⟨{ rst with script := [.time 5] }, { rst with nowUs := 5 }, fullInv_rst _ rfl rfl rfl, rfl⟩

theorem witness_MachineInvKept : ∃ s t : State, MachineInv s ∧ step s = .next t :=
  let ⟨s, t, h, h2⟩ := witness_invariants
  ⟨s, t, h.machine, h2⟩

theorem witness_FullInvKept :
    ∃ s t : State, FullInv s ∧ NoStrayAddress s ∧ BusyWhileAddressed s ∧ step s = .next t :=
  ⟨{ rst with script := [.time 5] }, { rst with nowUs := 5 }, fullInv_rst _ rfl rfl rfl,
    by simp [NoStrayAddress, AddressWaits, instances, rst, State.resetWith, Tc.reset],
    by simp [BusyWhileAddressed, AddressWaits, instances, rst, State.resetWith, Tc.reset], rfl⟩

theorem witness_OnlyFaultIsHostAccess : ∃ s : State, FullInv s :=
  let ⟨s, _, h, _⟩ := witness_invariants
  ⟨s, h⟩

/-- A DMA transmit of four bytes waiting for the bus, in a state that meets the invariants. -/
def acquiringDma : State := { acquiring with tc.xfer.eff := .dma }

/-- The four cells of `filled` hold values. -/
theorem filled_written : CellsBelow filled.tc.buf.txbuf 4 := by
  intro i hi
  interval_cases i <;> rfl

theorem witness_DmaPhaseTransitions :
    TcInv acquiringDma.par acquiringDma.tc ∧ TransferInv acquiringDma.tc ∧
    ends (stepRule .acquire acquiringDma) (fun t => t.tc.xfer.dmaPhase == .addr) = true ∧
    isNext (exec .configure rst) = true := by
  refine ⟨?_, ?_, by decide, by decide⟩
  · constructor
    case txWritten => exact filled_written
    all_goals
      simp [acquiringDma, acquiring, filled, rst, State.resetWith, Tc.reset, Memory.wf, statusMasterActive, rstPar,
        recoveryToggles, Params.txCap, Params.rxCap, Params.prioMax]
  · constructor <;>
      simp [acquiringDma, acquiring, filled, rst, State.resetWith, Tc.reset, CellsBelow, statusMasterActive,
        statusSlaveActive, awaitsBus]
    omega

/-- A run of each end, and a command word of each outcome. -/
theorem witness_EndsOfRunsAndCommands :
    runEnds .completed filled ∧
    runEnds .stuck { sending with script := [.time 5, .host (.read (.reg 0 0x14) 4)] } ∧
    runEnds (.faulted 0x41) { rst with script := [.host (.read (.reg 0 0x41) 4)] } ∧
    commandOutcome 0x04 rst = .illegal ∧ commandOutcome 0x17 sending = .rejected ∧
    commandOutcome 0x113 rst = .refused ∧ commandOutcome 0x10 rst = .accepted := by
  refine ⟨(by decide : runCompleted filled = true), ⟨by decide, fun dt => ?_⟩, ⟨_, _, rfl, rfl⟩, by decide, by decide, by decide, by decide⟩
  simp [everyInstance, afterTime, instances, sending, filled, rst, State.resetWith, List.range_succ, focusAt, tcQuiet,
    tcCanStep, allRules, ruleEnabled, canAcquire, canRecover, canTimeout, expired, canTxDone, canAddrDone, canRxByte,
    canRxFinal, canBulkError, canDmaDone, canDmaError, canDmaStale, canBoundary, canDispatch, canSlaveRx, canSlaveTx,
    canStopDetect, canSdaEdge, canUnexpected, slaveClass, grant, Tc.reset, rstPar, pendingTc, pendingRc]

end Sys2Proof.Tests
end

section
/-!
SUPPORT. The frame of every operation: what a step of the TC in focus leaves alone (`SameOutside`). The lemmas
`sameOutside_<operation>` carry a frame through the operation; `KeepsOutside` is the same for an operation that can stop.
-/

namespace Sys2Proof.Machine

/-! ### The relation -/

theorem SameOutside.refl (s : State) : SameOutside s s := ⟨rfl, rfl, rfl, rfl, rfl, rfl, rfl, rfl, rfl⟩

theorem sameOutside_iff {s t : State} :
    SameOutside s t ↔
      t.par = s.par ∧ t.before = s.before ∧ t.after = s.after ∧ t.tc.base = s.tc.base ∧ t.hostPrio = s.hostPrio ∧
        t.nowUs = s.nowUs ∧ t.rdata = s.rdata ∧ t.script = s.script ∧ t.draws = s.draws :=
  ⟨fun ⟨h1, h2, h3, h4, h5, h6, h7, h8, h9⟩ => ⟨h1, h2, h3, h4, h5, h6, h7, h8, h9⟩,
    fun ⟨h1, h2, h3, h4, h5, h6, h7, h8, h9⟩ => ⟨h1, h2, h3, h4, h5, h6, h7, h8, h9⟩⟩

@[simp] theorem sameOutside_self (s : State) : SameOutside s s := .refl s

/-- A write of the registers of the TC in focus, its base address kept. -/
@[simp] theorem sameOutside_setTc {s t : State} {c : Tc} (h : c.base = t.tc.base) :
    SameOutside s { t with tc := c } ↔ SameOutside s t := by simp [sameOutside_iff, h]

/-! ### The shared operations -/

section
variable {s t : State}

@[simp] theorem sameOutside_emit {c : PortCmd} : SameOutside s (emit c t) ↔ SameOutside s t := by
  simp [sameOutside_iff]

@[simp] theorem sameOutside_setResult {v : Word} : SameOutside s (setResult v t) ↔ SameOutside s t := by
  simp [sameOutside_iff]

@[simp] theorem sameOutside_rejectCmd : SameOutside s (rejectCmd t) ↔ SameOutside s t := by
  simp [sameOutside_iff]

@[simp] theorem sameOutside_illegalCmd : SameOutside s (illegalCmd t) ↔ SameOutside s t := by
  simp [sameOutside_iff]

@[simp] theorem sameOutside_completeCmd {v : Word} : SameOutside s (completeCmd v t) ↔ SameOutside s t := by
  simp [sameOutside_iff]

@[simp] theorem sameOutside_errinc {k : ErrCat} : SameOutside s (errinc k t) ↔ SameOutside s t := by
  simp [sameOutside_iff]

@[simp] theorem sameOutside_raiseEv {e : HostEv} : SameOutside s (raiseEv e t) ↔ SameOutside s t := by
  simp [sameOutside_iff]

@[simp] theorem sameOutside_claim : SameOutside s (claim t) ↔ SameOutside s t := by
  simp [sameOutside_iff]

@[simp] theorem sameOutside_handlerReturn : SameOutside s (handlerReturn t) ↔ SameOutside s t := by
  simp [sameOutside_iff]

@[simp] theorem sameOutside_appendTx {b : Byte} : SameOutside s (appendTx b t) ↔ SameOutside s t := by
  simp [sameOutside_iff]

@[simp] theorem sameOutside_dmaShutdown : SameOutside s (dmaShutdown t) ↔ SameOutside s t := by
  simp [sameOutside_iff]

@[simp] theorem sameOutside_endArbLost : SameOutside s (endArbLost t) ↔ SameOutside s t := by
  simp [sameOutside_iff]

@[simp] theorem sameOutside_endWithStop {st : Status} : SameOutside s (endWithStop st t) ↔ SameOutside s t := by
  simp [sameOutside_iff]

@[simp] theorem sameOutside_endSuccess {ev : HostEv} : SameOutside s (endSuccess ev t) ↔ SameOutside s t := by
  simp [sameOutside_iff]

@[simp] theorem sameOutside_startRecovery : SameOutside s (startRecovery t) ↔ SameOutside s t := by
  simp [sameOutside_iff]

@[simp] theorem sameOutside_startTransfer {k : Kind} {len : Nat} {b : Bool} {w : Word} :
    SameOutside s (startTransfer k len b w t) ↔ SameOutside s t := by
  simp [sameOutside_iff]

@[simp] theorem sameOutside_raiseSrxDone : SameOutside s (raiseSrxDone t) ↔ SameOutside s t := by
  simp [sameOutside_iff]

/-! ### What the rules are made of -/

@[simp] theorem sameOutside_dmaTxSetup : SameOutside s (dmaTxSetup t) ↔ SameOutside s t := by
  simp [dmaTxSetup]

@[simp] theorem sameOutside_dmaRxSetup : SameOutside s (dmaRxSetup t) ↔ SameOutside s t := by
  simp [dmaRxSetup]

@[simp] theorem sameOutside_dmaTxEnterBulk : SameOutside s (dmaTxEnterBulk t) ↔ SameOutside s t := by
  simp [dmaTxEnterBulk]

@[simp] theorem sameOutside_dmaRxEnterBulk : SameOutside s (dmaRxEnterBulk t) ↔ SameOutside s t := by
  simp [dmaRxEnterBulk]

@[simp] theorem sameOutside_txNak : SameOutside s (txNak t) ↔ SameOutside s t := by
  unfold txNak; split <;> simp

@[simp] theorem sameOutside_issueRecv {nak : Bool} : SameOutside s (issueRecv nak t) ↔ SameOutside s t := by
  simp [issueRecv]

@[simp] theorem sameOutside_addrAcked : SameOutside s (addrAcked t) ↔ SameOutside s t := by
  unfold addrAcked; repeat' split
  all_goals simp

@[simp] theorem sameOutside_addrNaked : SameOutside s (addrNaked t) ↔ SameOutside s t := by
  unfold addrNaked; split <;> simp

@[simp] theorem sameOutside_recoveryCleanup : SameOutside s (recoveryCleanup t) ↔ SameOutside s t := by
  simp [recoveryCleanup]

@[simp] theorem sameOutside_endRecovery : SameOutside s (endRecovery t) ↔ SameOutside s t := by
  unfold endRecovery; simp only []; split <;> simp

@[simp] theorem sameOutside_acqFail : SameOutside s (acqFail t) ↔ SameOutside s t := by
  unfold acqFail acqGiveUp; split <;> simp

@[simp] theorem sameOutside_afterLaunch : SameOutside s (afterLaunch t) ↔ SameOutside s t := by
  unfold afterLaunch; split <;> simp

@[simp] theorem sameOutside_slaveRxSetup : SameOutside s (slaveRxSetup t) ↔ SameOutside s t := by
  unfold slaveRxSetup; simp only []; split <;> simp

@[simp] theorem sameOutside_slaveTxSetup : SameOutside s (slaveTxSetup t) ↔ SameOutside s t := by
  unfold slaveTxSetup; simp only []; split <;> simp

@[simp] theorem sameOutside_slaveSetup {rw : Bool} : SameOutside s (slaveSetup rw t) ↔ SameOutside s t := by
  unfold slaveSetup; split <;> simp

@[simp] theorem sameOutside_slaveRxEnd : SameOutside s (slaveRxEnd t) ↔ SameOutside s t := by
  simp [slaveRxEnd]

/-! ### What the commands are made of -/

@[simp] theorem sameOutside_appendOrDrop {b : Byte} {c : Nat} :
    SameOutside s (appendOrDrop b c t).2 ↔ SameOutside s t := by
  unfold appendOrDrop; split <;> simp

@[simp] theorem sameOutside_startTx {stop b : Bool} {w : Word} :
    SameOutside s (startTx stop b w t) ↔ SameOutside s t := by
  unfold startTx; split <;> simp

@[simp] theorem sameOutside_startRx {stop b : Bool} {w : Word} :
    SameOutside s (startRx stop b w t) ↔ SameOutside s t := by
  unfold startRx; simp only []; repeat' split
  all_goals simp

@[simp] theorem sameOutside_configureApply {st : Strategy} :
    SameOutside s (configureApply st t) ↔ SameOutside s t := by
  simp [configureApply, beginContext, configureFields]

@[simp] theorem sameOutside_writeReg {r : Reg} {v : Word} : SameOutside s (writeReg r v t) ↔ SameOutside s t := by
  cases r <;> simp [writeReg, writeIrqPend, writeStatus]

@[simp] theorem sameOutside_powerOn : SameOutside s (powerOn t) ↔ SameOutside s t := by
  simp [powerOn, Tc.reset]

end

@[simp] theorem sameOutside_appendAll {s : State} (bs : List Byte) (c : Nat) (t : State) :
    SameOutside s (appendAll bs c t).2 ↔ SameOutside s t := by
  induction bs generalizing c t with
  | nil => rfl
  | cons b bs ih => simp [appendAll, ih]

/-! ### Operations that can stop -/

/-- The next state of `r`, if there is one, is `s` outside the registers of the TC in focus. -/
def KeepsOutside (s : State) (r : Result) : Prop := ∀ t, r = .next t → SameOutside s t

section
variable {s t : State}

@[simp] theorem keepsOutside_next : KeepsOutside s (.next t) ↔ SameOutside s t := by simp [KeepsOutside]

@[simp] theorem keepsOutside_fault (f : Fault) : KeepsOutside s (.fault f) := by simp [KeepsOutside]

@[simp] theorem keepsOutside_refused (r : Refusal) : KeepsOutside s (.refused r) := by simp [KeepsOutside]

theorem keepsOutside_mapNext {f : State → State} {r : Result} (hf : ∀ u, SameOutside s u → SameOutside s (f u))
    (hr : KeepsOutside s r) : KeepsOutside s (mapNext f r) := by
  intro t ht
  obtain ⟨u, hu, rfl⟩ := mapNext_eq_next ht
  exact hf u (hr u hu)

theorem keepsOutside_readTx {i : Nat} {k : Byte → Result} (hk : ∀ b, KeepsOutside s (k b)) :
    KeepsOutside s (readTx i t k) := by
  rcases readTx_cases i t k with ⟨b, -, h⟩ | ⟨-, h⟩ <;> simp [h, hk]

theorem keepsOutside_storeRx {d : Byte} {k : State → Result} (ht : SameOutside s t)
    (hk : ∀ u, SameOutside s u → KeepsOutside s (k u)) : KeepsOutside s (storeRx d t k) := by
  rcases storeRx_cases d t k with ⟨-, h⟩ | ⟨-, h⟩ <;> simp [h, hk, ht]

theorem keepsOutside_gated {g : Bool} {body : State → State} (hb : SameOutside s (body s)) :
    KeepsOutside s (gated g body s) := by
  rcases gated_cases g body s with ⟨h, -⟩ | ⟨h, -⟩ <;> simp [h, hb]

@[simp] theorem keepsOutside_placeLev {ev : LinkEv} (ht : SameOutside s t) : KeepsOutside s (placeLev ev t) := by
  rcases placeLev_cases ev t with ⟨-, h⟩ | ⟨-, h⟩ <;> simp [h, ht]

theorem keepsOutside_answerIssued {x : Issued} {k : State → Result} (ht : SameOutside s t)
    (hk : ∀ u, SameOutside s u → KeepsOutside s (k u)) : KeepsOutside s (answerIssued x t k) := by
  rcases answerIssued_cases x t k with ⟨rest, -, h⟩ | h <;> simp [h, hk, ht]

theorem keepsOutside_slaveEvent {r : Result} (hr : KeepsOutside s r) : KeepsOutside s (slaveEvent t r) :=
  fun u hu => hr u (slaveEvent_eq_next hu).2.2.2

@[simp] theorem keepsOutside_sendOrZero {i : Nat} (ht : SameOutside s t) : KeepsOutside s (sendOrZero i t) := by
  unfold sendOrZero
  split
  · exact keepsOutside_readTx fun b => by simpa
  · simpa

/-! ### Rules -/

@[simp] theorem keepsOutside_launch (ht : SameOutside s t) : KeepsOutside s (launch t) := by
  refine keepsOutside_mapNext (by simp) ?_
  split
  · refine keepsOutside_readTx fun b => ?_
    simp only [keepsOutside_next, sameOutside_emit]
    split <;> simpa
  · simp only [rxLaunch, keepsOutside_next, sameOutside_emit]
    split <;> simpa

@[simp] theorem keepsOutside_txNext (ht : SameOutside s t) : KeepsOutside s (txNext t) := by
  unfold txNext
  split
  · simpa
  · exact keepsOutside_readTx fun b => by simpa

@[simp] theorem keepsOutside_txCompletion {arbl rxak : Bool} (ht : SameOutside s t) :
    KeepsOutside s (txCompletion arbl rxak t) := by
  unfold txCompletion
  split_ifs <;> simp [ht, txTimeoutEnd, txLast]

theorem keepsOutside_fireRxByte : KeepsOutside s (fireRxByte s) := by
  unfold fireRxByte
  split
  · simp only []
    split
    · simp
    · exact keepsOutside_storeRx (by simp) fun u hu => by simpa
  · simp

theorem keepsOutside_fireRxFinal : KeepsOutside s (fireRxFinal s) := by
  unfold fireRxFinal
  split
  · simp only []
    split
    · simp
    · refine keepsOutside_storeRx (by simp) fun u hu => ?_
      split <;> simpa
  · simp

theorem keepsOutside_fireAddrDone : KeepsOutside s (fireAddrDone s) := by
  unfold fireAddrDone
  split
  · simp only []
    split_ifs <;> simp
  · simp

theorem keepsOutside_fireRecover : KeepsOutside s (fireRecover s) := by
  unfold fireRecover
  split
  · split <;> simp
  all_goals simp

theorem keepsOutside_fireAcquire : KeepsOutside s (fireAcquire s) := by
  unfold fireAcquire
  split_ifs <;> simp

theorem keepsOutside_fireBulkError : KeepsOutside s (fireBulkError s) := by
  unfold fireBulkError
  simp only []
  split_ifs <;> simp

theorem keepsOutside_fireDmaDone : KeepsOutside s (fireDmaDone s) := by
  unfold fireDmaDone
  simp only []
  split <;> simp

theorem keepsOutside_fireDmaError : KeepsOutside s (fireDmaError s) := by
  unfold fireDmaError
  simp only []
  split <;> simp

theorem keepsOutside_fireSlaveRx : KeepsOutside s (fireSlaveRx s) := by
  unfold fireSlaveRx
  split
  · simp only []
    split
    · exact keepsOutside_storeRx (by simp) fun u hu => by simpa
    · simp
  · simp

theorem keepsOutside_fireSlaveTx : KeepsOutside s (fireSlaveTx s) := by
  unfold fireSlaveTx
  split
  · simp only []
    split <;> simp
  · simp

theorem keepsOutside_fireStopDetect : KeepsOutside s (fireStopDetect s) := by
  unfold fireStopDetect
  simp only []
  split_ifs <;> simp

theorem keepsOutside_fireSdaEdge : KeepsOutside s (fireSdaEdge s) := by
  unfold fireSdaEdge
  simp only []
  split_ifs <;> simp

/-- 60 R305: a rule acts on the registers of the TC in focus. -/
theorem keepsOutside_fireRule (r : Rule) : KeepsOutside s (fireRule r s) := by
  cases r with
  | acquire => exact keepsOutside_fireAcquire
  | recover => exact keepsOutside_fireRecover
  | timeout => simp [fireRule, fireTimeout]
  | txDone => simp only [fireRule, fireTxDone]; split <;> simp
  | addrDone => exact keepsOutside_fireAddrDone
  | rxByte => exact keepsOutside_fireRxByte
  | rxFinal => exact keepsOutside_fireRxFinal
  | bulkError => exact keepsOutside_fireBulkError
  | dmaDone => exact keepsOutside_fireDmaDone
  | dmaError => exact keepsOutside_fireDmaError
  | dmaStale => simp [fireRule, fireDmaStale]
  | boundary => simp [fireRule, fireBoundary]
  | dispatch => simp only [fireRule, fireDispatch]; split <;> simp
  | slaveRx => exact keepsOutside_fireSlaveRx
  | slaveTx => exact keepsOutside_fireSlaveTx
  | stopDetect => exact keepsOutside_fireStopDetect
  | sdaEdge => exact keepsOutside_fireSdaEdge
  | unexpected => simp [fireRule, fireUnexpected]

theorem keepsOutside_stepRule (r : Rule) : KeepsOutside s (stepRule r s) := by
  rcases stepRule_cases r s with ⟨-, h⟩ | ⟨-, h⟩ <;> simp [h, keepsOutside_fireRule]

/-! ### Moves of LINK and DMA -/

theorem keepsOutside_dmaTakeByte {d : Byte} (ht : SameOutside s t) : KeepsOutside s (dmaTakeByte d t) := by
  unfold dmaTakeByte
  simp only []
  split_ifs <;> simp [ht]

theorem keepsOutside_deliverTc {arbl rxak : Bool} : KeepsOutside s (deliverTc arbl rxak s) :=
  keepsOutside_answerIssued (.refl s) fun u hu => by split <;> simp [hu]

theorem keepsOutside_deliverRc {arbl : Bool} {d : Byte} : KeepsOutside s (deliverRc arbl d s) :=
  keepsOutside_answerIssued (.refl s) fun u hu => by
    split
    · exact keepsOutside_dmaTakeByte hu
    · simp [hu]

theorem keepsOutside_deliverAddr {a : Addr7} {rw : Bool} : KeepsOutside s (deliverAddr a rw s) :=
  keepsOutside_slaveEvent <| by
    split
    · simp
    · exact keepsOutside_mapNext (by simp) (by simp)

theorem keepsOutside_deliverStx {ack : Bool} : KeepsOutside s (deliverStx ack s) :=
  keepsOutside_slaveEvent <| by
    split
    · simp
    · exact keepsOutside_mapNext (by simp) (by simp)

theorem keepsOutside_deliver (ev : LinkEv) : KeepsOutside s (deliver ev s) := by
  unfold deliver
  split
  · simp
  · cases ev with
    | tc => exact keepsOutside_deliverTc
    | rc => exact keepsOutside_deliverRc
    | addr => exact keepsOutside_deliverAddr
    | srx => exact keepsOutside_slaveEvent (by simp)
    | stx => exact keepsOutside_deliverStx
    | stopf =>
      simp only []
      split
      · simp
      · exact keepsOutside_slaveEvent (by simp)

theorem keepsOutside_dmaAgent (d : DmaStep) : KeepsOutside s (dmaAgent d s) := by
  cases d with
  | txElement =>
    simp only [dmaAgent]
    split_ifs
    · simp
    · simp
    all_goals
      refine keepsOutside_readTx fun b => ?_
      simp only [keepsOutside_next]
      split <;> simp
  | rxIssue => simp only [dmaAgent]; split <;> simp
  | error => simp only [dmaAgent]; split_ifs <;> simp

/-- 60 R305: a move of the bus acts on the registers of the TC in focus. -/
theorem keepsOutside_busMove (m : BusMove) : KeepsOutside s (busMove m s) := by
  cases m with
  | rule r => exact keepsOutside_stepRule r
  | deliver ev => exact keepsOutside_deliver ev
  | dma d => exact keepsOutside_dmaAgent d
  | sdaRise => simp only [busMove, sdaRise]; split <;> simp
  | _ => simp [busMove]

/-! ### Commands and host accesses -/

/-- A command acts on the registers of the TC in focus. -/
theorem keepsOutside_exec (i : Instr) : KeepsOutside s (exec i s) := by
  cases i with
  | configure =>
    simp only [exec, execConfigure]
    refine keepsOutside_gated ?_
    split
    · simp
    · split <;> simp
  | setStrategy =>
    simp only [exec, execSetStrategy]
    refine keepsOutside_gated ?_
    split
    · simp
    · split <;> simp
  | setRate =>
    simp only [exec, execSetRate]
    exact keepsOutside_gated (by split <;> simp)
  | beginWrite =>
    simp only [exec, execBeginWrite]
    exact keepsOutside_gated (by simp [beginWriteApply])
  | writeByte =>
    simp only [exec, execWriteByte]
    exact keepsOutside_gated (by split <;> simp)
  | writeBytes n =>
    simp only [exec, execWriteBytes]
    exact keepsOutside_gated (by split <;> simp)
  | endWrite stop d =>
    simp only [exec, execEndWrite]
    exact keepsOutside_gated (by simp)
  | sendWrite stop =>
    simp only [exec, execSendWrite]
    exact keepsOutside_gated (by simp)
  | read stop d =>
    simp only [exec, execRead]
    exact keepsOutside_gated (by simp)
  | sendRead stop =>
    simp only [exec, execSendRead]
    exact keepsOutside_gated (by simp)
  | await d =>
    simp only [exec, execAwait]
    exact keepsOutside_gated (by split <;> simp)
  | slaveRelease => simp only [exec, execSlaveRelease]; split <;> simp
  | resetBus =>
    simp only [exec, execResetBus]
    exact keepsOutside_gated (by simp)
  | resetErrcnt => simp only [exec, execResetErrcnt]; split <;> simp
  | eoi => simp [exec, execEoi]

theorem keepsOutside_hostWrite (off size : Nat) (v : Word) : KeepsOutside s (hostWrite off size v s) := by
  unfold hostWrite writeCmd
  split
  · simp
  · split
    · split
      · exact keepsOutside_exec _
      · simp
    all_goals simp

theorem sameOutside_returnValue {v : Word} (ht : SameOutside s t) :
    SameOutside { s with rdata := some v } (returnValue v t) :=
  { ht with rdata := rfl }

/-- A register read changes the registers of the TC in focus and returns a value to the host (20 R74). -/
theorem readReg_eq_next {r : Reg} (h : readReg r s = .next t) : ∃ v, SameOutside { s with rdata := some v } t := by
  cases r with
  | rxdata =>
    simp only [readReg, readPop] at h
    split at h
    · rcases readRx_cases s.tc.buf.rxidx s _ with ⟨b, -, hb⟩ | ⟨-, hb⟩ <;> rw [hb] at h <;> cases h
      exact ⟨_, sameOutside_returnValue (by simp)⟩
    · cases h
      exact ⟨_, sameOutside_returnValue (.refl s)⟩
  | rxpeek =>
    simp only [readReg, readPeek] at h
    split at h
    · rcases readRx_cases s.tc.buf.rxidx s _ with ⟨b, -, hb⟩ | ⟨-, hb⟩ <;> rw [hb] at h <;> cases h
      exact ⟨_, sameOutside_returnValue (.refl s)⟩
    · cases h
      exact ⟨_, sameOutside_returnValue (.refl s)⟩
  | irqClaim =>
    cases h
    exact ⟨_, sameOutside_returnValue (by simp)⟩
  | _ =>
    cases h
    exact ⟨_, sameOutside_returnValue (.refl s)⟩

/-- A host read changes the registers of the TC in focus and returns a value to the host (20 R74). -/
theorem hostRead_eq_next {off size : Nat} (h : hostRead off size s = .next t) :
    ∃ v, SameOutside { s with rdata := some v } t := by
  unfold hostRead at h
  split at h
  · cases h
  · split at h
    · exact readReg_eq_next h
    · cases h
      exact ⟨_, sameOutside_returnValue (.refl s)⟩

end

end Sys2Proof.Machine
end

section
/-!
SUPPORT. The step classes (60_exceptions.md R297): what the guard of a rule of each class contains.
-/

namespace Sys2Proof.Machine

/-- 42 R168, 43 R194. -/
theorem transferClass_iff (s : State) :
    transferClass s = true ↔
      if s.tc.xfer.eff = .immediate then s.tc.cmd.busy = true ∧ s.tc.cmd.op = .xfer
      else s.hostPrio < s.tc.cfg.irqPrio := by
  cases h : s.tc.xfer.eff <;> simp [transferClass, isrClass, grant, h]

/-- A step of a slave rule needs the grant (45 R243). -/
theorem grant_of_slaveClass {s : State} (h : slaveClass s = true) : grant s = true := by
  simp only [slaveClass, Bool.and_eq_true] at h
  exact h.1

/-- The guard of a rule of the interrupt class contains the grant. -/
theorem grant_of_isIsrRule {r : Rule} {s : State} (hr : isIsrRule r = true) (h : ruleEnabled r s = true) :
    grant s = true := by
  cases r with
  | bulkError => simp only [ruleEnabled, canBulkError, Bool.and_eq_true] at h; tauto
  | dmaDone => simp only [ruleEnabled, canDmaDone, Bool.and_eq_true] at h; tauto
  | dmaError => simp only [ruleEnabled, canDmaError, Bool.and_eq_true] at h; tauto
  | dmaStale => simp only [ruleEnabled, canDmaStale, Bool.and_eq_true] at h; tauto
  | boundary | dispatch | slaveRx | slaveTx | stopDetect | sdaEdge | unexpected =>
    refine grant_of_slaveClass ?_
    simp only [ruleEnabled, canBoundary, canDispatch, canSlaveRx, canSlaveTx, canStopDetect, canSdaEdge, canUnexpected,
      Bool.and_eq_true] at h
    tauto
  | acquire | recover | timeout | txDone | addrDone | rxByte | rxFinal => cases hr

/-- The guard of a transfer rule contains the class of the transfer. -/
theorem transferClass_of_isTransferRule {r : Rule} {s : State} (hr : isTransferRule r = true)
    (h : ruleEnabled r s = true) : transferClass s = true := by
  cases r with
  | txDone | addrDone | rxByte | rxFinal =>
    simp only [ruleEnabled, canTxDone, canAddrDone, canRxByte, canRxFinal, Bool.and_eq_true] at h
    tauto
  | _ => cases hr

/-- The guard of a rule that is always a foreground step contains `cmd_busy = 1`. -/
theorem busy_of_foregroundRule {r : Rule} {s : State} (hi : isIsrRule r = false) (ht : isTransferRule r = false)
    (h : ruleEnabled r s = true) : s.tc.cmd.busy = true := by
  cases r with
  | acquire | recover | timeout =>
    simp only [ruleEnabled, canAcquire, canRecover, canTimeout, Bool.and_eq_true] at h
    tauto
  | txDone | addrDone | rxByte | rxFinal => cases ht
  | _ => cases hi

end Sys2Proof.Machine

open Sys2Proof.Machine

/-- Settles O35: the guard of a rule contains the guard of its class, and a rule changes nothing outside the registers
of its TC. -/
theorem stepClassGuards : Obligations.StepClassGuards := by
  refine ⟨transferClass_iff, fun r s h => by simp [stepRule, h], fun r s t ht => ?_⟩
  have hen : ruleEnabled r s = true := by
    rcases stepRule_cases r s with ⟨h, -⟩ | ⟨-, h⟩
    · exact h
    · rw [h] at ht; cases ht
  refine ⟨?_, fun hi hf => ?_, (keepsOutside_stepRule r t ht).hostPrio⟩
  · rintro (hi | ⟨htr, he⟩)
    · simpa [grant] using grant_of_isIsrRule hi hen
    · simpa [he] using (transferClass_iff s).mp (transferClass_of_isTransferRule htr hen)
  · cases htr : isTransferRule r with
    | false => exact busy_of_foregroundRule hi htr hen
    | true =>
      have he : s.tc.xfer.eff = .immediate := by simpa [htr] using hf
      have hc := (transferClass_iff s).mp (transferClass_of_isTransferRule htr hen)
      rw [if_pos he] at hc
      exact hc.1
end

section
/-!
SUPPORT. The instances of the machine (60_exceptions.md R305): bringing one into focus keeps them all, and a step touches
no TC but the one in focus.
-/

namespace Sys2Proof.Machine

/-! ### Bringing a TC into focus -/

/-- `u` is `s` with the focus at another place: the instances are the same, and so is what they share. -/
structure Refocused (s u : State) : Prop where
  instances_eq : instances u = instances s
  shared : u = { s with before := u.before, tc := u.tc, after := u.after }

theorem Refocused.refl (s : State) : Refocused s s := ⟨rfl, rfl⟩

theorem Refocused.par {s u : State} (h : Refocused s u) : u.par = s.par := by rw [h.shared]

/-- `focusAt` gives the `n`-th TC, with those before it and those after it (60 R305). -/
theorem focusAt_eq_some {n : Nat} {s u : State} (h : focusAt n s = some u) :
    u.before.length = n ∧ (instances s)[n]? = some u.tc ∧ Refocused s u := by
  unfold focusAt at h
  split at h
  · next c rest hd =>
    cases h
    have hlt : n < (instances s).length := by
      by_contra hle
      simp [List.drop_eq_nil_of_le (not_lt.mp hle)] at hd
    have hget : (instances s)[n]? = some c := by
      rw [← List.head?_drop, hd, List.head?_cons]
    refine ⟨by simp [hlt.le], hget, ⟨?_, rfl⟩⟩
    calc (instances s).take n ++ c :: rest = (instances s).take n ++ (instances s).drop n := by rw [hd]
      _ = instances s := List.take_append_drop n _
  · cases h

/-- The number lies in the block of the TC brought into focus (20 R70). -/
theorem focusAddr_eq_some {a : Nat} {s u : State} (h : focusAddr a s = some u) :
    inBlock u.tc a = true ∧ Refocused s u := by
  unfold focusAddr at h
  split at h
  · next hin => cases h; exact ⟨hin, .refl _⟩
  · split at h
    · next n hn =>
      obtain ⟨-, hget, hre⟩ := focusAt_eq_some h
      obtain ⟨hlt, hin, -⟩ := List.findIdx?_eq_some_iff_getElem.mp hn
      rw [List.getElem?_eq_getElem hlt, Option.some.injEq] at hget
      exact ⟨hget ▸ hin, hre⟩
    · cases h

/-- The number is the offset in the block of the TC brought into focus (20 R70). -/
theorem focusNumber_eq_some {a off : Nat} {s u : State} (h : focusNumber a s = some (u, off)) :
    off < 0x100 ∧ a = u.tc.base + off ∧ Refocused s u := by
  simp only [focusNumber, Option.map_eq_some_iff, Prod.mk.injEq] at h
  obtain ⟨_, hu, rfl, rfl⟩ := h
  obtain ⟨hin, hre⟩ := focusAddr_eq_some hu
  simp only [inBlock, Bool.and_eq_true, decide_eq_true_eq] at hin
  exact ⟨by omega, by omega, hre⟩

theorem focusHost_refocused {a : HostAddr} {off : Nat} {s u : State} (h : focusHost a s = some (u, off)) :
    Refocused s u := by
  unfold focusHost at h
  split at h
  · split at h
    · next t hu =>
      split at h
      · cases h; exact (focusAt_eq_some hu).2.2
      · exact (focusNumber_eq_some h).2.2
    · cases h
  · exact (focusNumber_eq_some h).2.2

/-! ### The rest of the script -/

/-- `s` with another script to come (log 1, log 2). -/
def State.withRest (rest : List Move) (draws : Nat) (s : State) : State := { s with script := rest, draws := draws }

/-- The state a step's move starts from is `s` but for the script (log 1, log 2). -/
theorem nextMove_eq_withRest (s : State) : ∃ rest draws, (nextMove s).2 = s.withRest rest draws := by
  unfold nextMove
  split
  · next rest _ => exact ⟨rest, s.draws, rfl⟩
  · next h => exact ⟨[], s.draws + 1, by simp [State.withRest, h]⟩

section
variable (rest : List Move) (draws : Nat) (s : State)

theorem focusAt_withRest (n : Nat) :
    focusAt n (s.withRest rest draws) = (focusAt n s).map (State.withRest rest draws) := by
  unfold focusAt instances State.withRest
  simp only []
  split <;> simp [*]

theorem focusAddr_withRest (a : Nat) :
    focusAddr a (s.withRest rest draws) = (focusAddr a s).map (State.withRest rest draws) := by
  have hi : instances (s.withRest rest draws) = instances s := rfl
  have ht : (s.withRest rest draws).tc = s.tc := rfl
  unfold focusAddr
  rw [hi, ht]
  split
  · rfl
  · split
    · exact focusAt_withRest rest draws s _
    · rfl

/-- Which TC an address names, and the offset in its block, do not depend on the script. -/
theorem focusHost_withRest (a : HostAddr) :
    focusHost a (s.withRest rest draws) =
      (focusHost a s).map fun u => (u.1.withRest rest draws, u.2) := by
  have hnum (a : Nat) : focusNumber a (s.withRest rest draws) =
      (focusNumber a s).map fun u => (u.1.withRest rest draws, u.2) := by
    unfold focusNumber
    rw [focusAddr_withRest, Option.map_map, Option.map_map]
    rfl
  cases a with
  | abs a => exact hnum a
  | reg n off =>
    simp only [focusHost, focusAt_withRest]
    cases focusAt n s with
    | none => rfl
    | some t =>
      simp only [Option.map_some]
      split
      · rfl
      · exact hnum _

end

/-! ### What a step leaves alone -/

section
variable {s t u : State}

/-- What keeps everything outside the TC in focus changes no base address. -/
theorem SameOutside.bases (h : SameOutside s t) :
    (instances t).map (fun c => c.base) = (instances s).map (fun c => c.base) := by
  simp [instances, h.before, h.after, h.base]

/-- What keeps everything outside the TC in focus changes no other TC. -/
theorem SameOutside.getElem?_instances (h : SameOutside s t) {m : Nat} (hm : m ≠ s.before.length) :
    (instances t)[m]? = (instances s)[m]? := by
  unfold instances
  rw [h.before, h.after]
  rcases lt_or_gt_of_ne hm with hlt | hgt
  · rw [List.getElem?_append_left hlt, List.getElem?_append_left hlt]
  · obtain ⟨k, rfl⟩ := Nat.exists_eq_add_of_lt hgt
    simp [List.getElem?_append_right, Nat.add_assoc]

/-- `t` is `s` after a step on the TC that `u` has in focus: the parameters, the base addresses and every other
TC are kept. The value a host read returns (20 R74) is free. -/
structure TouchesFocusOf (u s t : State) : Prop where
  par : t.par = s.par
  bases : (instances t).map (fun c => c.base) = (instances s).map (fun c => c.base)
  position : t.before.length = u.before.length
  others : ∀ m, m ≠ u.before.length → (instances t)[m]? = (instances s)[m]?

theorem Refocused.touches {v : Option Word} (hu : Refocused s u) (h : SameOutside { u with rdata := v } t) :
    TouchesFocusOf u s t where
  par := h.par.trans hu.par
  bases := h.bases.trans (congrArg (List.map fun c => c.base) hu.instances_eq)
  position := congrArg List.length h.before
  others m hm := (h.getElem?_instances hm).trans (congrArg (·[m]?) hu.instances_eq)

/-- A host access acts on the TC its address lies in (20 R70). -/
theorem hostAccess_touches {a : Access} (h : hostAccess a s = .next t) :
    ∃ u off, focusHost (accessAddr a) s = some (u, off) ∧ TouchesFocusOf u s t := by
  cases a with
  | read addr size =>
    simp only [hostAccess] at h
    split at h
    · next f hf =>
      obtain ⟨v, hv⟩ := hostRead_eq_next h
      exact ⟨f.1, f.2, hf, (focusHost_refocused hf).touches hv⟩
    · cases h
  | write addr size w =>
    simp only [hostAccess] at h
    split at h
    · next f hf =>
      exact ⟨f.1, f.2, hf, (focusHost_refocused hf).touches (v := f.1.rdata) (keepsOutside_hostWrite _ _ _ t h)⟩
    · cases h

/-- As `hostAccess_touches`, the TC being named before the move is taken from the script. -/
theorem hostAccess_withRest_touches {a : Access} {rest : List Move} {draws : Nat}
    (h : hostAccess a (s.withRest rest draws) = .next t) :
    ∃ u off, focusHost (accessAddr a) s = some (u, off) ∧ TouchesFocusOf u s t := by
  obtain ⟨_, _, hv, ht⟩ := hostAccess_touches h
  rw [focusHost_withRest, Option.map_eq_some_iff] at hv
  obtain ⟨⟨u, off⟩, hu, heq⟩ := hv
  cases heq
  exact ⟨u, off, hu, ⟨ht.par, ht.bases, ht.position, ht.others⟩⟩

/-- A move of the bus of `n` acts on TC `n` (60 R305). -/
theorem busMove_touches {n : Nat} {b : BusMove} (h : move (.bus n b) s = .next t) :
    ∃ u, u.before.length = n ∧ TouchesFocusOf u s t := by
  simp only [move] at h
  split at h
  · next u hu =>
    obtain ⟨hn, -, hre⟩ := focusAt_eq_some hu
    exact ⟨u, hn, hre.touches (v := u.rdata) (keepsOutside_busMove b t h)⟩
  · cases h

theorem presentPrio_eq_next {p : Nat} (h : presentPrio p s = .next t) : t = { s with hostPrio := p } := by
  unfold presentPrio at h
  split at h <;> cases h
  rfl

theorem advanceTime_eq_next {dt : Word} (h : advanceTime dt s = .next t) : t = { s with nowUs := s.nowUs + dt } := by
  unfold advanceTime at h
  split at h <;> cases h
  rfl

end

end Sys2Proof.Machine

open Sys2Proof.Machine

/-- Settles O54: a step acts on the TC its move brings into focus, and bringing one into focus keeps them all. -/
theorem instancesShareNoState : Obligations.InstancesShareNoState := by
  refine ⟨fun s t h => ?_, fun n s u hu => ?_, fun a off s u h => ?_⟩
  · obtain ⟨rest, draws, hs⟩ := nextMove_eq_withRest s
    unfold step at h
    rw [hs] at h
    cases hm : (nextMove s).1 with rw [hm] at h
    | host a =>
      obtain ⟨u, off, hu, ht⟩ := hostAccess_withRest_touches h
      exact ⟨ht.par, ht.bases, u, off, hu, ht.position, ht.others⟩
    | hostPrio p =>
      obtain rfl := presentPrio_eq_next h
      exact ⟨rfl, rfl, rfl⟩
    | time dt =>
      obtain rfl := advanceTime_eq_next h
      exact ⟨rfl, rfl, rfl⟩
    | bus n b =>
      obtain ⟨u, rfl, ht⟩ := busMove_touches h
      exact ⟨ht.par, ht.bases, ht.position, ht.others⟩
  · obtain ⟨hn, -, hre⟩ := focusAt_eq_some hu
    exact ⟨hn, hre.instances_eq, hre.shared, fun b => by simp [move, hu], fun off ho => by simp [focusHost, hu, ho]⟩
  · obtain ⟨hlt, ha, hre⟩ := focusNumber_eq_some h
    exact ⟨hlt, ha, hre.instances_eq⟩
end

section
/-!
SUPPORT. What holds of every next state an outcome gives: one rule for each operation that can stop, so that a proof
about a step reads as the conditions on the states it can end in.
-/

namespace Sys2Proof.Machine

/-- Every next state the outcome `r` gives meets `P`. -/
def Yields (P : State → Prop) (r : Result) : Prop := ∀ t, r = .next t → P t

section
variable {P : State → Prop} {s t : State}

@[simp] theorem yields_next : Yields P (.next t) ↔ P t := by simp [Yields]

@[simp] theorem yields_fault (f : Fault) : Yields P (.fault f) := by simp [Yields]

@[simp] theorem yields_refused (r : Refusal) : Yields P (.refused r) := by simp [Yields]

@[simp] theorem yields_ite {c : Prop} [Decidable c] {r r' : Result} :
    Yields P (if c then r else r') ↔ (c → Yields P r) ∧ (¬c → Yields P r') := by
  split <;> simp [*]

@[simp] theorem yields_mapNext {f : State → State} {r : Result} :
    Yields P (mapNext f r) ↔ Yields (fun t => P (f t)) r := by
  cases r <;> simp [mapNext]

@[simp] theorem yields_readTx {i : Nat} {k : Byte → Result} :
    Yields P (readTx i s k) ↔ ∀ b, s.tc.buf.txbuf.read i = some b → Yields P (k b) := by
  rcases readTx_cases i s k with ⟨b, hb, h⟩ | ⟨hb, h⟩ <;> simp [h, hb]

@[simp] theorem yields_readRx {i : Nat} {k : Byte → Result} :
    Yields P (readRx i s k) ↔ ∀ b, s.tc.buf.rxbuf.read i = some b → Yields P (k b) := by
  rcases readRx_cases i s k with ⟨b, hb, h⟩ | ⟨hb, h⟩ <;> simp [h, hb]

@[simp] theorem yields_storeRx {d : Byte} {k : State → Result} :
    Yields P (storeRx d s k) ↔
      (s.tc.buf.rxlen < s.par.rxCap →
        Yields P (k { s with
          tc.buf.rxbuf := s.tc.buf.rxbuf.write s.tc.buf.rxlen d, tc.buf.rxlen := s.tc.buf.rxlen + 1 })) := by
  rcases storeRx_cases d s k with ⟨hb, h⟩ | ⟨hb, h⟩
  · simp [h, hb]
  · simp [h, not_lt.mpr hb]

@[simp] theorem yields_placeLev {ev : LinkEv} :
    Yields P (placeLev ev s) ↔ (s.tc.port.lev = none → P { s with tc.port.lev := some ev }) := by
  rcases placeLev_cases ev s with ⟨hb, h⟩ | ⟨hb, h⟩ <;> simp [h, hb]

@[simp] theorem yields_stepRule {r : Rule} :
    Yields P (stepRule r s) ↔ (ruleEnabled r s = true → Yields P (fireRule r s)) := by
  rcases stepRule_cases r s with ⟨hb, h⟩ | ⟨hb, h⟩ <;> simp [h, hb]

theorem yields_gated {g : Bool} {body : State → State} (hr : P (rejectCmd s))
    (hb : s.tc.cmd.busy = false → g = false → P (body s)) : Yields P (gated g body s) := by
  rcases gated_cases g body s with ⟨h, -⟩ | ⟨h, hbusy, hg⟩
  · simpa [h]
  · simpa [h] using hb hbusy hg

theorem yields_answerIssued {x : Issued} {k : State → Result}
    (hk : ∀ rest, Yields P (k { s with tc.link.issued := rest })) : Yields P (answerIssued x s k) := by
  rcases answerIssued_cases x s k with ⟨rest, -, h⟩ | h <;> simp [h, hk]

theorem yields_slaveEvent {r : Result} (hr : s.tc.cfg.mode = .slave → Yields P r) : Yields P (slaveEvent s r) := by
  intro t ht
  obtain ⟨hm, -, -, h⟩ := slaveEvent_eq_next ht
  exact hr hm t h

@[simp] theorem yields_sendOrZero {i : Nat} :
    Yields P (sendOrZero i s) ↔
      ((i < s.tc.buf.txlen → ∀ b, s.tc.buf.txbuf.read i = some b → P (emit (.write b) s)) ∧
        (¬i < s.tc.buf.txlen → P (emit (.write 0) s))) := by
  simp [sendOrZero]

/-- Everything a delivery can do: its event is placed in `lev`, a slave event in slave mode only, or a clean completion
goes to the DMA agent (30 R107, 44 R221 item 3). The link's own notes are free. -/
theorem yields_deliver {ev : LinkEv}
    (hplace : (isSlaveEvent ev = true → s.tc.cfg.mode = .slave) →
      ∀ l : LinkRegs, P { s with tc.link := l, tc.port.lev := some ev })
    (hready : ∀ l : LinkRegs, P { s with tc.link := l, tc.dma.ready := true })
    (htake : routesRc s = true → ∀ (l : LinkRegs) (d : Byte), Yields P (dmaTakeByte d { s with tc.link := l })) :
    Yields P (deliver ev s) := by
  unfold deliver
  split
  · simp
  · cases ev with
    | tc arbl rxak =>
      refine yields_answerIssued fun rest => ?_
      simp only [yields_ite, yields_next, yields_placeLev]
      exact ⟨fun _ => hready _, fun _ _ => hplace (fun hf => by cases hf) _⟩
    | rc arbl d =>
      refine yields_answerIssued fun rest => ?_
      simp only [yields_ite, yields_placeLev]
      exact ⟨fun hr => htake (Bool.and_eq_true_iff.mp hr).2 _ d, fun _ _ => hplace (fun hf => by cases hf) _⟩
    | addr a rw =>
      refine yields_slaveEvent fun hm => ?_
      simp only [yields_ite, yields_refused, yields_mapNext, yields_placeLev]
      exact ⟨fun _ => trivial, fun _ _ => hplace (fun _ => hm) _⟩
    | srx d => exact yields_slaveEvent fun hm => yields_placeLev.mpr fun _ => hplace (fun _ => hm) s.tc.link
    | stx ack =>
      refine yields_slaveEvent fun hm => ?_
      simp only [yields_ite, yields_refused, yields_mapNext, yields_placeLev]
      exact ⟨fun _ => trivial, fun _ _ => hplace (fun _ => hm) _⟩
    | stopf =>
      simp only [yields_ite, yields_refused]
      exact ⟨fun _ => trivial, fun _ =>
        yields_slaveEvent fun hm => yields_placeLev.mpr fun _ => hplace (fun _ => hm) s.tc.link⟩

end

/-! ### Link commands -/

/-- The command goes to the link or the pins, not to the DMA agent (30 R105). -/
@[reducible] def PortCmd.toLink : PortCmd → Bool
  | .start | .rstart | .write _ | .recv _ | .stop | .rate _ | .pins _ | .sclLow | .sclRelease | .sdaRelease => true
  | .dmaProgram _ _ _ | .dmaEnable | .dmaDisable | .dmaClear => false

theorem emit_link_keeps {c : PortCmd} (s : State) (h : c.toLink = true) :
    (emit c s).tc.port = s.tc.port ∧ (emit c s).tc.dma = s.tc.dma := by
  cases c with
  | write b => simp only [emit, portEffect]; split <;> exact ⟨rfl, rfl⟩
  | dmaProgram | dmaEnable | dmaDisable | dmaClear => cases h
  | _ => exact ⟨rfl, rfl⟩

@[simp] theorem emit_port {c : PortCmd} (s : State) (h : c.toLink = true) : (emit c s).tc.port = s.tc.port :=
  (emit_link_keeps s h).1

@[simp] theorem emit_dma {c : PortCmd} (s : State) (h : c.toLink = true) : (emit c s).tc.dma = s.tc.dma :=
  (emit_link_keeps s h).2

@[simp] theorem startRecovery_port (s : State) : (startRecovery s).tc.port = s.tc.port := by simp [startRecovery]

@[simp] theorem startRecovery_dma (s : State) : (startRecovery s).tc.dma = s.tc.dma := by simp [startRecovery]

end Sys2Proof.Machine
end

section
/-!
SUPPORT. A step of the machine as a step of one TC: an invariant of the instances is kept when a step of the TC in focus
keeps it.
-/

namespace Sys2Proof.Machine

/-! ### Register accesses -/

/-- What a register access that is no command leaves alone: all the rules go by, but the next byte to read and the
interrupt priority (46 R270 to R277). -/
structure AccessFrame (s t : State) : Prop where
  outside : ∃ v, SameOutside { s with rdata := v } t
  mode : t.tc.cfg.mode = s.tc.cfg.mode
  irqPrio : t.tc.cfg.irqPrio = s.tc.cfg.irqPrio ∨ t.tc.cfg.irqPrio ≤ s.par.prioMax
  xfer : t.tc.xfer = s.tc.xfer
  buf : t.tc.buf = { s.tc.buf with rxidx := t.tc.buf.rxidx }
  rxidx : t.tc.buf.rxidx = s.tc.buf.rxidx ∨ t.tc.buf.rxidx ≤ s.tc.buf.rxlen
  busy : t.tc.cmd.busy = s.tc.cmd.busy
  op : t.tc.cmd.op = s.tc.cmd.op
  kind : t.tc.cmd.kind = s.tc.cmd.kind
  rcv : t.tc.rcv = s.tc.rcv
  slave : t.tc.slave = s.tc.slave
  dma : t.tc.dma = s.tc.dma
  port : t.tc.port = s.tc.port
  err : t.tc.err = s.tc.err

section
variable {s t u : State}

theorem AccessFrame.refl (s : State) : AccessFrame s s :=
  ⟨⟨s.rdata, .refl s⟩, rfl, .inl rfl, rfl, rfl, .inl rfl, rfl, rfl, rfl, rfl, rfl, rfl, rfl, rfl⟩

theorem AccessFrame.returnValue (h : AccessFrame s t) (v : Word) : AccessFrame s (returnValue v t) :=
  { h with outside := ⟨some v, { h.outside.choose_spec with rdata := rfl }⟩ }

theorem accessFrame_readReg (r : Reg) (s : State) : Yields (AccessFrame s) (readReg r s) := by
  have same := AccessFrame.refl s
  cases r with
  | rxdata =>
    simp only [readReg, readPop, yields_ite, yields_next, yields_readRx]
    refine ⟨fun hlt _ _ => ?_, fun _ => same.returnValue _⟩
    exact AccessFrame.returnValue (t := { s with tc.buf.rxidx := s.tc.buf.rxidx + 1 })
      { same with outside := ⟨s.rdata, by simp⟩, buf := rfl, rxidx := .inr hlt } _
  | rxpeek =>
    simp only [readReg, readPeek, yields_ite, yields_next, yields_readRx]
    exact ⟨fun _ _ _ => same.returnValue _, fun _ => same.returnValue _⟩
  | irqClaim =>
    exact yields_next.mpr (AccessFrame.returnValue (t := claim s) { same with outside := ⟨s.rdata, by simp⟩ } _)
  | _ => exact yields_next.mpr (same.returnValue _)

theorem accessFrame_hostRead (off size : Nat) (s : State) : Yields (AccessFrame s) (hostRead off size s) := by
  unfold hostRead
  split
  · simp
  · split
    · exact accessFrame_readReg _ s
    · exact yields_next.mpr ((AccessFrame.refl s).returnValue 0)

theorem accessFrame_writeReg (r : Reg) (v : Word) (s : State) : AccessFrame s (writeReg r v s) := by
  have same := AccessFrame.refl s
  have outside : ∃ w, SameOutside { s with rdata := w } (writeReg r v s) := ⟨s.rdata, by simp⟩
  cases r with
  | irqPrio => exact { same with outside := outside, irqPrio := .inr (min_le_right _ _) }
  | arg0 | arg1 | arg2 | timeoutDefault | dmaThresh | irqEn | irqPend | status =>
    exact { same with outside := outside }
  | _ => exact same

theorem accessFrame_illegalCmd (s : State) : AccessFrame s (illegalCmd s) :=
  { AccessFrame.refl s with outside := ⟨s.rdata, by simp⟩ }

/-- CMD is the register at offset 0 (30 R96). -/
theorem eq_zero_of_regAt_cmd {off : Nat} (h : regAt off = some .cmd) : off = 0 := by
  unfold regAt at h
  split at h <;> first | rfl | cases h

/-- A write runs a command, at offset 0, or is a register access that is none (30 R100, R101, 46 R272). -/
theorem hostWrite_cases {off size : Nat} {w : Word} (h : hostWrite off size w s = .next t) :
    (off = 0 ∧ ∃ i, exec i s = .next t) ∨ AccessFrame s t := by
  unfold hostWrite writeCmd at h
  split at h
  · cases h
  · split at h
    · next hr =>
      split at h
      · exact .inl ⟨eq_zero_of_regAt_cmd hr, _, h⟩
      · cases h; exact .inr (accessFrame_illegalCmd s)
    · next r _ _ => cases h; exact .inr (accessFrame_writeReg r w s)
    · cases h; exact .inr (.refl s)

/-! ### Steps of one TC -/

/-- `v` follows `u` by one move of the TC that `u` has in focus. -/
inductive FocusStep (u v : State) : Prop
  | bus (m : BusMove) (h : busMove m u = .next v)
  | command (i : Instr) (h : exec i u = .next v)
  | access (h : AccessFrame u v)

theorem FocusStep.sameOutside (h : FocusStep u t) : ∃ r, SameOutside { u with rdata := r } t := by
  cases h with
  | bus m h => exact ⟨u.rdata, keepsOutside_busMove m t h⟩
  | command i h => exact ⟨u.rdata, keepsOutside_exec i t h⟩
  | access h => exact h.outside

theorem hostAccess_focusStep {a : Access} (h : hostAccess a s = .next t) : ∃ u, Refocused s u ∧ FocusStep u t := by
  cases a with
  | read addr size =>
    simp only [hostAccess] at h
    split at h
    · next f hf => exact ⟨f.1, focusHost_refocused hf, .access (accessFrame_hostRead _ _ _ t h)⟩
    · cases h
  | write addr size w =>
    simp only [hostAccess] at h
    split at h
    · next f hf =>
      rcases hostWrite_cases h with ⟨-, i, hi⟩ | ha
      · exact ⟨f.1, focusHost_refocused hf, .command i hi⟩
      · exact ⟨f.1, focusHost_refocused hf, .access ha⟩
    · cases h

theorem Refocused.hostPrio (h : Refocused s u) : u.hostPrio = s.hostPrio := by rw [h.shared]

/-- Everything a step can do: HOST presents a priority or time passes, or the TC an address or a move names takes a
step (00 R8). -/
theorem step_cases (h : step s = .next t) :
    (instances t = instances s ∧ t.par = s.par ∧ (t.hostPrio = s.hostPrio ∨ t.hostPrio ≤ s.par.prioMax)) ∨
      ∃ u, instances u = instances s ∧ u.par = s.par ∧ u.hostPrio = s.hostPrio ∧ FocusStep u t := by
  obtain ⟨rest, draws, hs⟩ := nextMove_eq_withRest s
  unfold step at h
  rw [hs] at h
  have focused {u : State} (hu : Refocused (s.withRest rest draws) u) (hf : FocusStep u t) :
      ∃ u, instances u = instances s ∧ u.par = s.par ∧ u.hostPrio = s.hostPrio ∧ FocusStep u t :=
    ⟨u, hu.instances_eq, hu.par, hu.hostPrio, hf⟩
  cases hm : (nextMove s).1 with rw [hm] at h
  | host a =>
    obtain ⟨u, hu, hf⟩ := hostAccess_focusStep h
    exact .inr (focused hu hf)
  | hostPrio p =>
    simp only [move, presentPrio] at h
    split at h <;> cases h
    exact .inl ⟨rfl, rfl, .inr ‹_›⟩
  | time dt =>
    obtain rfl := advanceTime_eq_next h
    exact .inl ⟨rfl, rfl, .inl rfl⟩
  | bus n b =>
    simp only [move] at h
    split at h
    · next u hu => exact .inr (focused (focusAt_eq_some hu).2.2 (.bus b h))
    · cases h

theorem hostPrio_le_step (hs : s.hostPrio ≤ s.par.prioMax) (h : step s = .next t) : t.hostPrio ≤ t.par.prioMax := by
  rcases step_cases h with ⟨-, hp, hh⟩ | ⟨u, -, hp, hh, hf⟩
  · rw [hp]; rcases hh with hh | hh <;> omega
  · obtain ⟨r, ho⟩ := hf.sameOutside
    rw [ho.hostPrio, ho.par]
    simpa [hh, hp]

/-- If every TC meets `P`, and a step of one that meets `P` gives one that meets the weaker `Q`, then every TC meets `Q`
after a step. -/
theorem forall_instances_step {P Q : Tc → Prop} (h : step s = .next t) (hs : ∀ c ∈ instances s, P c)
    (weaken : ∀ c, P c → Q c) (keep : ∀ u, u.par = s.par → P u.tc → FocusStep u t → Q t.tc) :
    ∀ c ∈ instances t, Q c := by
  rcases step_cases h with ⟨hi, -, -⟩ | ⟨u, hi, hp, -, hf⟩
  · rw [hi]; exact fun c hc => weaken c (hs c hc)
  · obtain ⟨r, ho⟩ := hf.sameOutside
    rw [← hi] at hs
    have htc : Q t.tc := keep u hp (hs _ (by simp [instances])) hf
    intro c hc
    simp only [instances, ho.before, ho.after, List.mem_append, List.mem_cons] at hc
    rcases hc with hc | rfl | hc
    · exact weaken c (hs c (by simp [instances, hc]))
    · exact htc
    · exact weaken c (hs c (by simp [instances, hc]))

end

end Sys2Proof.Machine
end

section
/-!
SUPPORT. The machine invariant (10_state.md R26, R34 (c), (e), (f), R35) in two parts, the buffers and the control
state, with one lemma for each way a rule changes a part.
-/

namespace Sys2Proof.Machine

/-- The part of `TcInv` about the buffers and cursors (10 R26, R35). -/
structure BufInv (p : Params) (b : BufRegs) : Prop where
  txCanonical : b.txbuf.wf = true
  rxCanonical : b.rxbuf.wf = true
  txRange : ∀ c ∈ b.txbuf, c.1 < p.txCap
  rxRange : ∀ c ∈ b.rxbuf, c.1 < p.rxCap
  txlenBound : b.txlen ≤ p.txCap
  txidxBound : b.txidx ≤ p.txCap
  rxidxBound : b.rxidx ≤ b.rxlen
  rxlenBound : b.rxlen ≤ p.rxCap
  txWritten : CellsBelow b.txbuf b.txlen
  rxreqBound : b.rxreq.toNat ≤ p.rxCap

/-- The part of `TcInv` about the command in progress and the recovery sequencer (10 R34 (c), (e), (f)). -/
structure ControlInv (m : Mode) (st : Status) (busy : Bool) (op : CmdOp) (r : RecRegs) : Prop where
  busyOp : busy = false ↔ op = .none
  gpioRecover : r.pinsGpio = true ↔ op = .recover
  stepRecover : r.step ≠ .idle ↔ op = .recover
  internalRecover : r.internal = true → op = .recover
  togglesBound : r.k ≤ recoveryToggles ∧ r.resultK ≤ recoveryToggles
  toggleOpen : r.step = .low ∨ r.step = .high → r.k < recoveryToggles
  activeMaster : statusMasterActive st = true → m = .master
  acquireMaster : op = .acq ∨ r.internal = true → m = .master
  acquireIdle : op = .acq ∨ op = .recover → statusMasterActive st = false

theorem tcInv_iff {p : Params} {c : Tc} :
    TcInv p c ↔ BufInv p c.buf ∧ c.cfg.irqPrio ≤ p.prioMax ∧
      ControlInv c.cfg.mode c.xfer.status c.cmd.busy c.cmd.op c.rcv := by
  constructor
  · intro h
    exact ⟨{ h with }, h.prioBound, { h with }⟩
  · rintro ⟨hb, hp, hc⟩
    exact { hb, hc with prioBound := hp }

/-! ### Buffers -/

namespace BufInv
variable {p : Params} {b : BufRegs} {i : Nat} (h : BufInv p b)
include h

theorem setTxidx (hi : i ≤ p.txCap) : BufInv p { b with txidx := i } := { h with txidxBound := hi }

theorem clearTx : BufInv p { b with txlen := 0, txidx := 0 } :=
  { h with txlenBound := Nat.zero_le _, txidxBound := Nat.zero_le _, txWritten := by simp [CellsBelow] }

theorem clearRx : BufInv p { b with rxlen := 0, rxidx := 0 } :=
  { h with rxlenBound := Nat.zero_le _, rxidxBound := le_rfl }

theorem setRxreq {n : Word} (hn : n.toNat ≤ p.rxCap) : BufInv p { b with rxreq := n } := { h with rxreqBound := hn }

theorem setRxidx (hi : i ≤ b.rxlen) : BufInv p { b with rxidx := i } := { h with rxidxBound := hi }

theorem appendTx (v : Byte) (hlt : b.txlen < p.txCap) :
    BufInv p { b with txbuf := b.txbuf.write b.txlen v, txlen := b.txlen + 1 } :=
  { h with
    txCanonical := write_wf _ _ _ h.txCanonical
    txRange := write_range _ _ _ _ h.txRange hlt
    txlenBound := hlt
    txWritten := cellsBelow_append _ _ _ h.txWritten }

/-- BEGIN_WRITE: the address byte is the only one (42 R160). -/
theorem beginTx (v : Byte) : BufInv p { b with txbuf := b.txbuf.write 0 v, txlen := 1, txidx := 0 } :=
  { h with
    txCanonical := write_wf _ _ _ h.txCanonical
    txRange := write_range _ _ _ _ h.txRange (by simp [Params.txCap])
    txlenBound := by simp [Params.txCap]
    txidxBound := Nat.zero_le _
    txWritten := cellsBelow_append _ 0 _ (by simp [CellsBelow]) }

theorem storeRx (v : Byte) (hi : i < p.rxCap) (hlt : b.rxlen < p.rxCap) :
    BufInv p { b with rxbuf := b.rxbuf.write i v, rxlen := b.rxlen + 1 } :=
  { h with
    rxCanonical := write_wf _ _ _ h.rxCanonical
    rxRange := write_range _ _ _ _ h.rxRange hi
    rxidxBound := Nat.le_succ_of_le h.rxidxBound
    rxlenBound := hlt }

end BufInv

/-! ### Control state -/

namespace ControlInv
variable {m m' : Mode} {st st' : Status} {busy : Bool} {op op' : CmdOp} {r : RecRegs} (h : ControlInv m st busy op r)
include h

/-- No master transfer is active after the step. -/
theorem settle (hst : statusMasterActive st' = false) : ControlInv m st' busy op r :=
  { h with activeMaster := by simp [hst], acquireIdle := fun _ => hst }

/-- An active master transfer stays active (43 R199). -/
theorem stayActive (hst : statusMasterActive st = true) : ControlInv m st' busy op r :=
  { h with
    activeMaster := fun _ => h.activeMaster hst
    acquireIdle := fun ho => by simp [h.acquireIdle ho] at hst }

/-- The command in progress becomes another one, outside acquisition and recovery. -/
theorem setOp {busy' : Bool} (ho : op ≠ .recover) (hbusy : busy' = false ↔ op' = .none)
    (ho' : op' ≠ .acq ∧ op' ≠ .recover) : ControlInv m st busy' op' r :=
  { h with
    busyOp := hbusy
    gpioRecover := by simpa [ho, ho'] using h.gpioRecover
    stepRecover := by simpa [ho, ho'] using h.stepRecover
    internalRecover := fun hi => absurd (h.internalRecover hi) ho
    acquireMaster := by simpa [ho'] using fun hi => h.acquireMaster (.inr hi)
    acquireIdle := by simp [ho'] }

theorem complete (ho : op ≠ .recover) : ControlInv m st false .none r := h.setOp ho (by simp) (by simp)

/-- A transfer starts in master mode with none active (41 R144). -/
theorem startAcquire (ho : op = .none) (hm : m = .master) (hst : statusMasterActive st = false) :
    ControlInv m st true .acq r :=
  { h with
    busyOp := by simp
    gpioRecover := by simpa [ho] using h.gpioRecover
    stepRecover := by simpa [ho] using h.stepRecover
    internalRecover := fun hi => by simp [h.internalRecover hi] at ho
    acquireMaster := fun _ => hm
    acquireIdle := fun _ => hst }

/-- A launch in the acquisition: the transfer is active, and the acquisition over (41 R145). -/
theorem launch (ho : op = .acq) : ControlInv m st' busy .xfer r :=
  let hx : ControlInv m st busy .xfer r := h.setOp (by simp [ho]) (by simpa [ho] using h.busyOp) (by simp)
  { hx with activeMaster := fun _ => h.acquireMaster (.inl ho), acquireIdle := by simp }

/-- The mode changes while no command is in progress (40 R120). -/
theorem configure (ho : op = .none) : ControlInv m' .waiting busy op r :=
  { h.settle (st' := .waiting) rfl with
    activeMaster := by simp [statusMasterActive]
    acquireMaster := by
      rintro (ha | hi)
      · simp [ha] at ho
      · simp [h.internalRecover hi] at ho }

/-- RESET_BUS, or the one recovery of a failed acquisition, in master mode (41 R146, R149, R150). -/
theorem startRecovery {i : Bool} (hi : i = true → m = .master) (hst : statusMasterActive st = false) :
    ControlInv m st true .recover { r with pinsGpio := true, k := 0, step := .sample, internal := i } :=
  { h with
    busyOp := by simp
    gpioRecover := by simp
    stepRecover := by simp
    internalRecover := fun _ => rfl
    togglesBound := ⟨Nat.zero_le _, h.togglesBound.2⟩
    toggleOpen := by simp
    acquireMaster := by simpa using hi
    acquireIdle := fun _ => hst }

/-- A step inside the recovery (41 R151). -/
theorem recoverStep {r' : RecRegs} (ho : op = .recover) (hs : r'.step ≠ .idle) (hk : r'.k ≤ recoveryToggles)
    (hopen : r'.step = .low ∨ r'.step = .high → r'.k < recoveryToggles)
    (hrest : r'.pinsGpio = r.pinsGpio ∧ r'.internal = r.internal ∧ r'.resultK = r.resultK) :
    ControlInv m st busy op r' := by
  obtain ⟨hg, hint, hres⟩ := hrest
  exact
    { h with
      gpioRecover := by rw [hg]; exact h.gpioRecover
      stepRecover := by simp [hs, ho]
      internalRecover := fun _ => ho
      togglesBound := ⟨hk, hres ▸ h.togglesBound.2⟩
      toggleOpen := hopen
      acquireMaster := by rw [hint]; exact h.acquireMaster }

/-- The end of the recovery: an internal one goes back to the acquisition, else RESET_BUS completes (41 R152). -/
theorem endRecovery {b : Bool} {t : Bool} (hb : b = r.internal) (hbusy : busy = true) :
    ControlInv m .waiting (if b then busy else false) (if b then .acq else .none)
      { r with pinsGpio := false, step := .idle, internal := false, resultK := r.k, stuck := t } :=
  { busyOp := by cases b <;> simp [hbusy]
    gpioRecover := by cases b <;> simp
    stepRecover := by cases b <;> simp
    internalRecover := by simp
    togglesBound := ⟨h.togglesBound.1, h.togglesBound.1⟩
    toggleOpen := by simp
    activeMaster := by simp [statusMasterActive]
    acquireMaster := by
      cases b with
      | false => simp
      | true => exact fun _ => h.acquireMaster (.inr hb.symm)
    acquireIdle := fun _ => rfl }

end ControlInv

end Sys2Proof.Machine
end

section
/-!
SUPPORT. Every step of a TC keeps the machine invariant.
-/

namespace Sys2Proof.Machine

/-- The part of a TC that `TcInv` reads is unchanged. -/
theorem TcInv.congr {p : Params} {c d : Tc} (h : TcInv p c)
    (hb : d.buf = c.buf := by simp [rejectCmd, issueRecv, dmaTxEnterBulk, dmaRxEnterBulk, slaveRxEnd])
    (hcfg : d.cfg.irqPrio = c.cfg.irqPrio ∧ d.cfg.mode = c.cfg.mode := by
      simp [rejectCmd, issueRecv, dmaTxEnterBulk, dmaRxEnterBulk, slaveRxEnd])
    (hst : d.xfer.status = c.xfer.status := by
      simp [rejectCmd, issueRecv, dmaTxEnterBulk, dmaRxEnterBulk, slaveRxEnd])
    (hcmd : d.cmd.busy = c.cmd.busy ∧ d.cmd.op = c.cmd.op := by
      simp [rejectCmd, issueRecv, dmaTxEnterBulk, dmaRxEnterBulk, slaveRxEnd])
    (hr : d.rcv = c.rcv := by simp [rejectCmd, issueRecv, dmaTxEnterBulk, dmaRxEnterBulk, slaveRxEnd]) :
    TcInv p d := by
  rw [tcInv_iff, hb, hcfg.1, hcfg.2, hst, hcmd.1, hcmd.2, hr]
  exact tcInv_iff.mp h

section
variable {p : Params} {s : State}

theorem tcInv_reset (base : Nat) : TcInv p (Tc.reset p base) := by
  constructor <;> simp [Tc.reset, Memory.wf, CellsBelow, statusMasterActive]

theorem TcInv.setBuf {c : Tc} {b : BufRegs} (h : TcInv p c) (hb : BufInv p b) : TcInv p { c with buf := b } :=
  tcInv_iff.mpr ⟨hb, (tcInv_iff.mp h).2⟩

theorem TcInv.bufInv {c : Tc} (h : TcInv p c) : BufInv p c.buf := (tcInv_iff.mp h).1

/-! ### The ends of a master transfer -/

theorem tcInv_settle {c : Tc} {x : XferRegs} (h : TcInv p c) (hst : statusMasterActive x.status = false) :
    TcInv p { c with xfer := x } := by
  obtain ⟨hb, hp, hc⟩ := tcInv_iff.mp h
  exact tcInv_iff.mpr ⟨hb, hp, hc.settle hst⟩

theorem tcInv_finalize (h : TcInv p s.tc) : TcInv p (finalize s).tc := by
  obtain ⟨hb, hp, hc⟩ := tcInv_iff.mp h
  have hctl : ControlInv s.tc.cfg.mode s.tc.xfer.status (finalize s).tc.cmd.busy (finalize s).tc.cmd.op s.tc.rcv := by
    rw [finalize_cmd]
    split
    · next hw => exact hc.complete (by rintro ho; simp [ho] at hw)
    · exact hc
  simpa [tcInv_iff, finalize_xfer] using ⟨hb, hp, hctl⟩

theorem tcInv_endArbLost (h : TcInv p s.tc) : TcInv p (endArbLost s).tc :=
  tcInv_finalize ((tcInv_settle h (x := { s.tc.xfer with status := .arbitrationLost, masterHeld := false }) rfl).congr)

theorem tcInv_endWithStop {st : Status} (h : TcInv p s.tc) (hst : statusMasterActive st = false) :
    TcInv p (endWithStop st s).tc :=
  tcInv_finalize ((tcInv_settle h (x := { s.tc.xfer with status := st }) hst).congr)

theorem tcInv_endSuccess {ev : HostEv} (h : TcInv p s.tc) : TcInv p (endSuccess ev s).tc := by
  have hw := tcInv_settle h (x := { s.tc.xfer with status := .waiting }) rfl
  unfold endSuccess
  refine tcInv_finalize ?_
  split_ifs <;> exact hw.congr

/-! ### Acquisition and recovery -/

/-- After a launch, whatever status it set, a command waits for the transfer or has returned (41 R145). -/
theorem tcInv_afterLaunch {t : State} (h : TcInv p s.tc) (ho : s.tc.cmd.op = .acq) (hb : BufInv p t.tc.buf)
    (hcfg : t.tc.cfg = s.tc.cfg) (hcmd : t.tc.cmd = s.tc.cmd) (hr : t.tc.rcv = s.tc.rcv) :
    TcInv p (afterLaunch t).tc := by
  obtain ⟨-, hp, hc⟩ := tcInv_iff.mp h
  have hl : ControlInv s.tc.cfg.mode t.tc.xfer.status s.tc.cmd.busy .xfer s.tc.rcv := hc.launch ho
  unfold afterLaunch
  split
  · simpa [tcInv_iff, hcfg, hcmd, hr] using ⟨hb, hp, hl⟩
  · simpa [tcInv_iff, hcfg, hr] using ⟨hb, hp, hl.complete (by simp)⟩

theorem tcInv_launch (h : TcInv p s.tc) (ho : s.tc.cmd.op = .acq) : Yields (fun t => TcInv p t.tc) (launch s) := by
  have hb := (tcInv_iff.mp h).1
  unfold launch
  rw [yields_mapNext]
  split
  · simp only [txLaunch, yields_readTx, yields_next]
    intro b _
    refine tcInv_afterLaunch h ho ?_ ?_ ?_ ?_ <;> split_ifs <;> simp [dmaTxSetup, hb.setTxidx]
  · simp only [rxLaunch, yields_next]
    refine tcInv_afterLaunch h ho ?_ ?_ ?_ ?_ <;> split_ifs <;> simp [dmaRxSetup, hb]

theorem tcInv_startRecovery {i : Bool} {c : CmdRegs} (h : TcInv p s.tc) (hi : i = true → s.tc.cfg.mode = .master)
    (hst : statusMasterActive s.tc.xfer.status = false) (hbusy : c.busy = true) (hop : c.op = .recover) :
    TcInv p (startRecovery { s with tc.cmd := c, tc.rcv.internal := i }).tc := by
  obtain ⟨hb, hp, hc⟩ := tcInv_iff.mp h
  simpa [tcInv_iff, startRecovery_rcv, hbusy, hop] using ⟨hb, hp, hc.startRecovery hi hst⟩

theorem tcInv_acqFail (h : TcInv p s.tc) (hbusy : s.tc.cmd.busy = true) (ho : s.tc.cmd.op = .acq) :
    TcInv p (acqFail s).tc := by
  have hidle := h.acquireIdle (.inl ho)
  unfold acqFail
  split
  · exact tcInv_startRecovery (c := { s.tc.cmd with acqRetried := true, op := .recover }) h
      (fun _ => h.acquireMaster (.inl ho)) hidle hbusy rfl
  · obtain ⟨hb, hp, hc⟩ := tcInv_iff.mp h
    exact tcInv_iff.mpr ⟨hb, hp, (hc.settle rfl).complete (by simp [ho])⟩

theorem tcInv_fireAcquire (h : TcInv p s.tc) (hg : canAcquire s = true) :
    Yields (fun t => TcInv p t.tc) (fireAcquire s) := by
  simp only [canAcquire, Bool.and_eq_true, beq_iff_eq] at hg
  obtain ⟨⟨⟨hbusy, ho⟩, -⟩, -⟩ := hg
  unfold fireAcquire
  split_ifs
  · exact tcInv_launch (h.congr) (by simpa)
  · exact tcInv_launch (h.congr) (by simpa)
  · exact yields_next.mpr (tcInv_acqFail h hbusy ho)

theorem tcInv_endRecovery (h : TcInv p s.tc) (hbusy : s.tc.cmd.busy = true) : TcInv p (endRecovery s).tc := by
  obtain ⟨hb, hp, hc⟩ := tcInv_iff.mp h
  have hi : (recoveryCleanup s).tc.rcv.internal = s.tc.rcv.internal := by simp [recoveryCleanup]
  unfold endRecovery
  simp only [hi]
  split_ifs with hint
  · simpa [tcInv_iff, recoveryCleanup] using ⟨hb, hp, hc.endRecovery (b := true) hint.symm hbusy⟩
  · have he := hc.endRecovery (b := false) (t := !s.tc.port.sda) (by simpa using hint) hbusy
    simpa [tcInv_iff, recoveryCleanup, hint] using ⟨hb, hp, he⟩

theorem tcInv_fireRecover (h : TcInv p s.tc) (hg : canRecover s = true) :
    Yields (fun t => TcInv p t.tc) (fireRecover s) := by
  simp only [canRecover, Bool.and_eq_true, beq_iff_eq] at hg
  obtain ⟨⟨hbusy, ho⟩, -⟩ := hg
  obtain ⟨hb, hp, hc⟩ := tcInv_iff.mp h
  obtain ⟨hk, -⟩ := h.togglesBound
  unfold fireRecover
  split
  · split_ifs with hend
    · exact yields_next.mpr (tcInv_endRecovery h hbusy)
    · have hlt : s.tc.rcv.k < recoveryToggles := by simp at hend; omega
      simpa [tcInv_iff] using
        ⟨hb, hp, hc.recoverStep (r' := { s.tc.rcv with step := .low }) ho (by simp) hk (fun _ => hlt) ⟨rfl, rfl, rfl⟩⟩
  · next hlow =>
    simpa [tcInv_iff] using
      ⟨hb, hp, hc.recoverStep (r' := { s.tc.rcv with t := s.nowUs, step := .high }) ho (by simp) hk
        (fun _ => h.toggleOpen (.inl hlow)) ⟨rfl, rfl, rfl⟩⟩
  · next hhigh =>
    have hlt := h.toggleOpen (.inr hhigh)
    simpa [tcInv_iff] using
      ⟨hb, hp, hc.recoverStep (r' := { s.tc.rcv with k := s.tc.rcv.k + 1, step := .sample }) ho (by simp) hlt
        (by simp) ⟨rfl, rfl, rfl⟩⟩
  · simp

/-! ### Rules of a master transfer -/

/-- An active transfer stays active (43 R199). -/
theorem tcInv_stayActive {c : Tc} {x : XferRegs} (h : TcInv p c) (hst : statusMasterActive c.xfer.status = true) :
    TcInv p { c with xfer := x } := by
  obtain ⟨hb, hp, hc⟩ := tcInv_iff.mp h
  exact tcInv_iff.mpr ⟨hb, hp, hc.stayActive hst⟩

theorem tcInv_txNak (h : TcInv p s.tc) : TcInv p (txNak s).tc := by
  unfold txNak
  split
  · exact tcInv_endWithStop (h.congr) rfl
  · exact tcInv_endWithStop (h.congr) rfl

theorem tcInv_txNext (h : TcInv p s.tc) (hlt : s.tc.buf.txidx + 1 < s.tc.buf.txlen) :
    Yields (fun t => TcInv p t.tc) (txNext s) := by
  have hidx : s.tc.buf.txidx + 1 ≤ p.txCap := hlt.le.trans h.txlenBound
  have hnext : TcInv p { s.tc with buf := { s.tc.buf with txidx := s.tc.buf.txidx + 1 } } :=
    h.setBuf (h.bufInv.setTxidx hidx)
  unfold txNext
  simp only [yields_ite, yields_next, yields_readTx]
  exact ⟨fun _ => h.congr, fun _ _ _ => hnext.congr⟩

theorem tcInv_txCompletion {arbl rxak : Bool} (h : TcInv p s.tc) :
    Yields (fun t => TcInv p t.tc) (txCompletion arbl rxak s) := by
  unfold txCompletion
  split_ifs with _ _ _ hlt
  · exact yields_next.mpr (tcInv_endArbLost h)
  · exact yields_next.mpr (tcInv_endWithStop h rfl)
  · exact yields_next.mpr (tcInv_txNak h)
  · exact tcInv_txNext h hlt
  · exact yields_next.mpr (tcInv_endSuccess h)

theorem tcInv_addrAcked (h : TcInv p s.tc) (hst : s.tc.xfer.status = .sendAddr) : TcInv p (addrAcked s).tc := by
  have hact {x : XferRegs} : TcInv p { s.tc with xfer := x } := tcInv_stayActive h (by rw [hst]; rfl)
  unfold addrAcked
  split_ifs
  · exact (hact (x := { s.tc.xfer with dmaPhase := .off, status := .receiving })).congr
  · exact (hact (x := { s.tc.xfer with status := .receiving, dmaPhase := .bulk })).congr
  · exact (hact (x := { s.tc.xfer with status := .receiving })).congr

theorem tcInv_fireAddrDone (h : TcInv p s.tc) (hg : canAddrDone s = true) :
    Yields (fun t => TcInv p t.tc) (fireAddrDone s) := by
  simp only [canAddrDone, Bool.and_eq_true, beq_iff_eq] at hg
  obtain ⟨⟨hst, -⟩, -⟩ := hg
  unfold fireAddrDone addrNaked
  split
  · simp only [yields_ite, yields_next]
    refine ⟨fun _ => tcInv_endArbLost h.congr, fun _ => ⟨fun _ => ?_, fun _ => tcInv_addrAcked h.congr hst⟩⟩
    split_ifs
    · exact tcInv_endWithStop h.congr rfl
    · exact tcInv_endWithStop h.congr rfl
  · simp

theorem tcInv_storeRx (d : Byte) (h : TcInv s.par s.tc) (hlt : s.tc.buf.rxlen < s.par.rxCap) :
    TcInv s.par
      { s.tc with
        buf := { s.tc.buf with rxbuf := s.tc.buf.rxbuf.write s.tc.buf.rxlen d, rxlen := s.tc.buf.rxlen + 1 } } :=
  h.setBuf (h.bufInv.storeRx d hlt hlt)

theorem tcInv_fireRxByte (h : TcInv s.par s.tc) : Yields (fun t => TcInv s.par t.tc) (fireRxByte s) := by
  unfold fireRxByte
  split
  · next e _ =>
    simp only [yields_ite, yields_next, yields_storeRx]
    exact ⟨fun _ => tcInv_endArbLost h.congr, fun _ hlt => (tcInv_storeRx e.2 h hlt).congr⟩
  · simp

theorem tcInv_fireRxFinal (h : TcInv s.par s.tc) : Yields (fun t => TcInv s.par t.tc) (fireRxFinal s) := by
  unfold fireRxFinal
  split
  · next e _ =>
    simp only [yields_ite, yields_next, yields_storeRx]
    exact ⟨fun _ => tcInv_endArbLost h.congr, fun _ hlt =>
      ⟨fun _ => tcInv_endWithStop (tcInv_storeRx e.2 h hlt).congr rfl,
        fun _ => tcInv_endSuccess (tcInv_storeRx e.2 h hlt).congr⟩⟩
  · simp

theorem tcInv_fireBulkError (h : TcInv p s.tc) : Yields (fun t => TcInv p t.tc) (fireBulkError s) := by
  unfold fireBulkError
  simp only [yields_ite, yields_next]
  exact ⟨fun _ => tcInv_endArbLost h.congr, fun _ =>
    ⟨fun _ => tcInv_endWithStop h.congr rfl, fun _ => tcInv_endWithStop h.congr rfl⟩⟩

theorem tcInv_fireDmaDone (h : TcInv p s.tc) : Yields (fun t => TcInv p t.tc) (fireDmaDone s) := by
  unfold fireDmaDone
  split
  · have hidx : s.tc.buf.txlen - 2 ≤ p.txCap := (Nat.sub_le _ _).trans h.txlenBound
    exact yields_next.mpr ((h.setBuf (h.bufInv.setTxidx hidx)).congr)
  · exact yields_next.mpr h.congr

theorem tcInv_fireDmaError (h : TcInv p s.tc) : Yields (fun t => TcInv p t.tc) (fireDmaError s) := by
  unfold fireDmaError
  simp only [yields_ite, yields_next]
  exact ⟨fun _ => tcInv_endArbLost h.congr, fun _ => tcInv_endWithStop h.congr rfl⟩

/-! ### Rules of the slave dispatcher -/

theorem tcInv_slaveSetup {rw : Bool} (h : TcInv p s.tc) : TcInv p (slaveSetup rw s).tc := by
  unfold slaveSetup slaveTxSetup slaveRxSetup
  split_ifs
  · have ht := (tcInv_settle h (x := { s.tc.xfer with status := .slaveTx }) rfl).setBuf h.bufInv.clearTx
    simp only []
    split_ifs <;> exact ht.congr
  · have hr := (tcInv_settle h (x := { s.tc.xfer with status := .slaveRx }) rfl).setBuf h.bufInv.clearRx
    simp only []
    split_ifs <;> exact hr.congr

theorem tcInv_slaveRxEnd (h : TcInv p s.tc) : TcInv p (slaveRxEnd s).tc :=
  (tcInv_settle h (x := { s.tc.xfer with status := .waiting }) rfl).congr

theorem tcInv_fireSlaveRx (h : TcInv s.par s.tc) : Yields (fun t => TcInv s.par t.tc) (fireSlaveRx s) := by
  unfold fireSlaveRx
  split
  · next d _ =>
    simp only [yields_ite, yields_next, yields_storeRx]
    exact ⟨fun _ hlt => (tcInv_storeRx d h hlt).congr, fun _ => h.congr⟩
  · simp

theorem tcInv_fireSlaveTx (h : TcInv p s.tc) : Yields (fun t => TcInv p t.tc) (fireSlaveTx s) := by
  have hidx : min (s.tc.buf.txidx + 1) s.tc.buf.txlen ≤ p.txCap := (min_le_right _ _).trans h.txlenBound
  have hnext := h.setBuf (h.bufInv.setTxidx hidx)
  unfold fireSlaveTx
  split
  · simp only [yields_ite, yields_next, yields_sendOrZero]
    exact ⟨fun _ => ⟨fun _ _ _ => hnext.congr, fun _ => hnext.congr⟩, fun _ =>
      (tcInv_settle h (x := { s.tc.xfer with status := .waiting }) rfl).congr⟩
  · simp

theorem tcInv_fireStopDetect (h : TcInv p s.tc) : Yields (fun t => TcInv p t.tc) (fireStopDetect s) := by
  unfold fireStopDetect
  simp only [yields_ite, yields_next]
  exact ⟨fun _ => tcInv_slaveRxEnd h.congr, fun _ =>
    ⟨fun _ => (tcInv_settle h (x := { s.tc.xfer with status := .waiting }) rfl).congr, fun _ => h.congr⟩⟩

theorem tcInv_fireSdaEdge (h : TcInv p s.tc) : Yields (fun t => TcInv p t.tc) (fireSdaEdge s) := by
  unfold fireSdaEdge
  simp only [yields_ite, yields_next]
  exact ⟨fun _ => h.congr, fun _ => ⟨fun _ => tcInv_slaveRxEnd h.congr, fun _ =>
    ⟨fun _ => h.congr, fun _ => h.congr⟩⟩⟩

theorem tcInv_fireRule (r : Rule) (h : TcInv s.par s.tc) (hg : ruleEnabled r s = true) :
    Yields (fun t => TcInv s.par t.tc) (fireRule r s) := by
  cases r with
  | acquire => exact tcInv_fireAcquire h hg
  | recover => exact tcInv_fireRecover h hg
  | timeout => exact yields_next.mpr h.congr
  | txDone =>
    simp only [fireRule, fireTxDone]
    split
    · exact tcInv_txCompletion h.congr
    · simp
  | addrDone => exact tcInv_fireAddrDone h hg
  | rxByte => exact tcInv_fireRxByte h
  | rxFinal => exact tcInv_fireRxFinal h
  | bulkError => exact tcInv_fireBulkError h
  | dmaDone => exact tcInv_fireDmaDone h
  | dmaError => exact tcInv_fireDmaError h
  | dmaStale => exact yields_next.mpr h.congr
  | boundary => exact yields_next.mpr h.congr
  | dispatch =>
    simp only [fireRule, fireDispatch]
    split
    · exact yields_next.mpr (tcInv_slaveSetup h.congr)
    · simp
  | slaveRx => exact tcInv_fireSlaveRx h
  | slaveTx => exact tcInv_fireSlaveTx h
  | stopDetect => exact tcInv_fireStopDetect h
  | sdaEdge => exact tcInv_fireSdaEdge h
  | unexpected => exact yields_next.mpr h.congr

/-! ### Moves of LINK and DMA -/

theorem tcInv_dmaTakeByte {d : Byte} (h : TcInv s.par s.tc) :
    Yields (fun t => TcInv s.par t.tc) (dmaTakeByte d s) := by
  unfold dmaTakeByte
  simp only [yields_ite, yields_next, yields_fault, yields_refused, implies_true, true_and]
  intro hn hl
  have hb := h.setBuf (h.bufInv.storeRx d (not_le.mp hn) (not_le.mp hl))
  exact ⟨fun _ _ => hb.congr, fun _ => hb.congr⟩

theorem tcInv_deliver (ev : LinkEv) (h : TcInv s.par s.tc) : Yields (fun t => TcInv s.par t.tc) (deliver ev s) :=
  yields_deliver (fun _ _ => h.congr) (fun _ => h.congr) fun _ l _ =>
    tcInv_dmaTakeByte (s := { s with tc.link := l }) h.congr

theorem tcInv_dmaAgent (d : DmaStep) (h : TcInv p s.tc) : Yields (fun t => TcInv p t.tc) (dmaAgent d s) := by
  cases d with
  | txElement =>
    simp only [dmaAgent, yields_ite, yields_next, yields_refused, yields_readTx]
    refine ⟨fun _ => trivial, fun _ => ⟨fun _ => trivial, fun _ b _ => ?_⟩⟩
    split_ifs <;> exact h.congr
  | rxIssue =>
    simp only [dmaAgent, yields_ite, yields_next, yields_refused]
    exact ⟨fun _ => trivial, fun _ => h.congr⟩
  | error =>
    simp only [dmaAgent, yields_ite, yields_next, yields_refused]
    exact ⟨fun _ => trivial, fun _ => ⟨fun _ => trivial, fun _ => h.congr⟩⟩

theorem tcInv_busMove (m : BusMove) (h : TcInv s.par s.tc) : Yields (fun t => TcInv s.par t.tc) (busMove m s) := by
  cases m with
  | rule r => exact yields_stepRule.mpr fun hg => tcInv_fireRule r h hg
  | deliver ev => exact tcInv_deliver ev h
  | dma d => exact tcInv_dmaAgent d h
  | sdaRise =>
    simp only [busMove, sdaRise, yields_ite, yields_next, yields_refused]
    exact ⟨fun _ => h.congr, fun _ => trivial⟩
  | powerOn => exact yields_next.mpr ((tcInv_reset s.tc.base).congr rfl ⟨rfl, rfl⟩ rfl ⟨rfl, rfl⟩ rfl)
  | linkBusy b => exact yields_next.mpr h.congr
  | linkArbl b => exact yields_next.mpr h.congr
  | dmaAvailable b => exact yields_next.mpr h.congr
  | sda b => exact yields_next.mpr h.congr
  | scl b => exact yields_next.mpr h.congr

/-! ### Commands and register accesses -/

theorem irqPrio_resolveEff (k : Kind) (len : Nat) (s : State) (h : s.tc.cfg.irqPrio ≤ s.par.prioMax) :
    (resolveEff k len s).2 ≤ s.par.prioMax := by
  have he : (escalate s.tc.cfg.strategy s).2 ≤ s.par.prioMax := by
    unfold escalate
    split_ifs with _ hlt
    · exact hlt
    · exact h
    · exact h
  unfold resolveEff
  simp only []
  split_ifs <;> exact he

theorem tcInv_startTransfer {k : Kind} {len : Nat} {b : Bool} {w : Word} (h : TcInv s.par s.tc)
    (hbusy : s.tc.cmd.busy = false) (hg : startRejects s = false) :
    TcInv s.par (startTransfer k len b w s).tc := by
  obtain ⟨hb, hp, hc⟩ := tcInv_iff.mp h
  simp only [startRejects, Bool.or_eq_false_iff, beq_eq_false_iff_ne] at hg
  have hm : s.tc.cfg.mode = .master := by cases hm : s.tc.cfg.mode <;> simp_all
  exact tcInv_iff.mpr ⟨hb, irqPrio_resolveEff k len s hp, hc.startAcquire (h.busyOp.mp hbusy) hm hg.2⟩

theorem tcInv_startTx {stop b : Bool} {w : Word} (h : TcInv s.par s.tc) (hbusy : s.tc.cmd.busy = false)
    (hg : startRejects s = false) : TcInv s.par (startTx stop b w s).tc := by
  unfold startTx
  split
  · exact h.congr
  · exact tcInv_startTransfer (s := { s with tc.xfer.stopReq := stop }) h.congr hbusy hg

theorem tcInv_startRx {stop b : Bool} {w : Word} (h : TcInv s.par s.tc) (hbusy : s.tc.cmd.busy = false)
    (hg : startRejects s = false) : TcInv s.par (startRx stop b w s).tc := by
  unfold startRx
  simp only []
  split_ifs with _ hcap
  · exact h.congr
  · exact (tcInv_settle h (x := { s.tc.xfer with status := .bufferOverflow }) rfl).congr
  · have hb := h.setBuf (h.bufInv.clearRx.setRxreq (not_lt.mp hcap))
    exact tcInv_startTransfer (s := { s with
      tc.xfer := { s.tc.xfer with ovf := false, rxTarget := argTarget s, stopReq := stop }
      tc.buf := { s.tc.buf with rxreq := s.tc.cmd.arg1, rxlen := 0, rxidx := 0 } }) hb.congr hbusy hg

theorem tcInv_appendOrDrop (v : Byte) (c : Nat) (h : TcInv s.par s.tc) :
    TcInv s.par (appendOrDrop v c s).2.tc := by
  unfold appendOrDrop
  split
  · next hlt => exact h.setBuf (h.bufInv.appendTx v hlt)
  · exact h.congr

theorem tcInv_appendAll (bs : List Byte) (c : Nat) (s : State) (h : TcInv s.par s.tc) :
    TcInv s.par (appendAll bs c s).2.tc := by
  induction bs generalizing c s with
  | nil => exact h
  | cons b bs ih =>
    have hpar : (appendOrDrop b c s).2.par = s.par := (sameOutside_appendOrDrop.mpr (.refl s)).par
    have hb := tcInv_appendOrDrop b c h
    simp only [appendAll]
    rw [← hpar] at hb ⊢
    exact ih _ _ hb

theorem tcInv_configureApply {st : Strategy} (h : TcInv p s.tc) (hbusy : s.tc.cmd.busy = false) :
    TcInv p (configureApply st s).tc := by
  obtain ⟨hb, hp, hc⟩ := tcInv_iff.mp h
  have hbuf : BufInv p { s.tc.buf with txlen := 0, txidx := 0, rxlen := 0, rxidx := 0, rxreq := 0 } :=
    hb.clearTx.clearRx.setRxreq (Nat.zero_le _)
  simpa [configureApply, beginContext, configureFields, tcInv_iff] using
    ⟨hbuf, hp, hc.configure (m' := argMode s) (h.busyOp.mp hbusy)⟩

theorem tcInv_exec (i : Instr) (h : TcInv s.par s.tc) : Yields (fun t => TcInv s.par t.tc) (exec i s) := by
  have accepted {g : Bool} {body : State → State}
      (hb : s.tc.cmd.busy = false → g = false → TcInv s.par (body s).tc) :
      Yields (fun t => TcInv s.par t.tc) (gated g body s) := yields_gated h.congr hb
  cases i with
  | configure =>
    simp only [exec, execConfigure]
    refine accepted fun hbusy _ => ?_
    split
    · exact h.congr
    · split
      · exact h.congr
      · exact tcInv_configureApply h hbusy
  | setStrategy =>
    simp only [exec, execSetStrategy]
    refine accepted fun _ _ => ?_
    split
    · exact h.congr
    · split <;> exact h.congr
  | setRate =>
    simp only [exec, execSetRate]
    refine accepted fun _ _ => ?_
    split <;> exact h.congr
  | beginWrite => exact accepted fun _ _ => (h.setBuf (h.bufInv.beginTx _)).congr rfl ⟨rfl, rfl⟩ rfl ⟨rfl, rfl⟩ rfl
  | writeByte =>
    simp only [exec, execWriteByte]
    refine accepted fun _ _ => ?_
    split
    · exact h.congr
    · exact (tcInv_appendOrDrop (argByte s) 0 h).congr
  | writeBytes n =>
    simp only [exec, execWriteBytes]
    refine accepted fun _ _ => ?_
    split
    · exact h.congr
    · exact (tcInv_appendAll (argBytes s.tc.cmd.arg0 n) 0 s h).congr
  | endWrite stop d => exact accepted fun hbusy hg => tcInv_startTx h hbusy hg
  | sendWrite stop => exact accepted fun hbusy hg => tcInv_startTx h hbusy hg
  | read stop d => exact accepted fun hbusy hg => tcInv_startRx h hbusy hg
  | sendRead stop => exact accepted fun hbusy hg => tcInv_startRx h hbusy hg
  | await d =>
    simp only [exec, execAwait]
    refine accepted fun hbusy _ => ?_
    split
    · exact h.congr
    · obtain ⟨hb, hp, hc⟩ := tcInv_iff.mp h
      have ho := h.busyOp.mp hbusy
      exact tcInv_iff.mpr ⟨hb, hp, hc.setOp (by simp [ho]) (by simp) (by simp)⟩
  | slaveRelease =>
    have hidx := h.setBuf (h.bufInv.setTxidx (i := 0) (Nat.zero_le _))
    simp only [exec, execSlaveRelease]
    split
    · exact yields_sendOrZero.mpr ⟨fun _ _ _ => hidx.congr, fun _ => hidx.congr⟩
    · exact yields_next.mpr h.congr
    · exact yields_next.mpr h
  | resetBus =>
    simp only [exec, execResetBus]
    refine accepted fun _ hg => ?_
    simp only [Bool.or_eq_false_iff] at hg
    exact tcInv_startRecovery (c := { s.tc.cmd with busy := true, op := .recover }) h (by simp) hg.1 rfl rfl
  | resetErrcnt =>
    simp only [exec, execResetErrcnt]
    split
    · exact yields_next.mpr h.congr
    · exact yields_next.mpr h
  | eoi => exact yields_next.mpr h.congr

theorem AccessFrame.tcInv {t : State} (hf : AccessFrame s t) (h : TcInv s.par s.tc) : TcInv s.par t.tc := by
  obtain ⟨hb, hp, hc⟩ := tcInv_iff.mp h
  have hidx : t.tc.buf.rxidx ≤ s.tc.buf.rxlen := hf.rxidx.elim (fun he => he ▸ hb.rxidxBound) id
  have hbuf : BufInv s.par t.tc.buf := by
    rw [hf.buf]
    exact hb.setRxidx hidx
  have hprio : t.tc.cfg.irqPrio ≤ s.par.prioMax := hf.irqPrio.elim (fun he => he ▸ hp) id
  rw [tcInv_iff, hf.mode, hf.xfer, hf.busy, hf.op, hf.rcv]
  exact ⟨hbuf, hprio, hc⟩

/-- Every step of a TC keeps the machine invariant. -/
theorem FocusStep.keeps_tcInv {t : State} (hf : FocusStep s t) (h : TcInv s.par s.tc) : TcInv s.par t.tc := by
  cases hf with
  | bus m ht => exact tcInv_busMove m h t ht
  | command i ht => exact tcInv_exec i h t ht
  | access hf => exact hf.tcInv h

theorem tcInv_step {t : State} (hs : ∀ c ∈ instances s, TcInv s.par c) (h : step s = .next t) :
    ∀ c ∈ instances t, TcInv s.par c :=
  forall_instances_step h hs (fun _ hc => hc) fun u hu hc hf => by
    rw [← hu] at hc ⊢
    exact hf.keeps_tcInv hc

theorem machineInv_step {t : State} (hs : MachineInv s) (h : step s = .next t) : MachineInv t := by
  refine ⟨hostPrio_le_step hs.hostPrioBound h, ?_⟩
  rw [(instancesShareNoState.1 s t h).1]
  exact tcInv_step hs.each h

end

end Sys2Proof.Machine
end

section
open Sys2Proof.Machine

/-- Settles O57: a step acts on one TC, and every operation a rule or a command is made of keeps the buffer part and the
control part of its invariant. -/
theorem machineInvKept : Obligations.MachineInvKept := fun _ _ hs h => machineInv_step hs h
end

section
/-!
SUPPORT. The transfer invariant (10_state.md R34 (a), (b), (d), R26, 43_master_rx.md R202 (d)) in the parts that rules
change: the slave side, the receive count, the acquisition under way, the DMA channel and the phase of the transfer.
-/

namespace Sys2Proof.Machine

/-- Holds, the edge watch and slave phases belong to slave mode (10 R34 (b)). -/
structure SlaveInv (m : Mode) (st : Status) (sl : SlaveRegs) : Prop where
  holdSlave : sl.hold ≠ .none → m = .slave
  watchSlave : sl.watchArmed = true → m = .slave
  slavePhase : statusSlaveActive st = true → m = .slave

/-- No more bytes are received than asked for, and each is stored (10 R26, R35). -/
structure ReceiveInv (m : Mode) (b : BufRegs) : Prop where
  receiveCap : m = .master → b.rxlen ≤ b.rxreq.toNat
  rxWritten : CellsBelow b.rxbuf b.rxlen

/-- What an acquisition under way has ready to launch (41 R144, R146). -/
structure AwaitInv (op : CmdOp) (internal : Bool) (k : Kind) (eff : Strategy) (b : BufRegs) : Prop where
  txReady : op = .acq ∨ internal = true → k = .tx → 0 < b.txlen ∧ (eff = .dma → 4 ≤ b.txlen)
  rxReady : op = .acq ∨ internal = true → k = .rx →
    b.rxlen = 0 ∧ 1 ≤ b.rxreq.toNat ∧ (eff = .dma → 2 ≤ b.rxreq.toNat)

/-- What the DMA channel may do in any phase: a byte it waits for is inside its range, and every cell it may send holds
a value (44 R220, R221). -/
structure ChannelInv (d : DmaRegs) (tx : Memory) : Prop where
  dmaPending : d.pending = true → d.dir = .rx ∧ d.next ≤ d.last
  dmaTxCells : d.dir = .tx → ∀ i, d.next ≤ i → i ≤ d.last → (tx.read i).isSome = true

/-- What the phase of a master transfer says of its registers and of the DMA channel (44 R231). -/
structure PhaseInv (x : XferRegs) (k : Kind) (b : BufRegs) (d : DmaRegs) (ev : Option DmaEv) : Prop where
  phaseEff : x.dmaPhase ≠ .off → x.eff = .dma
  phaseActive : x.dmaPhase ≠ .off → statusMasterActive x.status = true
  toFlagActive : x.toFlag = true → statusMasterActive x.status = true
  kindMatches : statusMasterActive x.status = true → (x.status = .sending ↔ k = .tx)
  phaseFloor : x.dmaPhase ≠ .off → (k = .tx → 4 ≤ b.txlen) ∧ (k = .rx → 2 ≤ b.rxreq.toNat)
  addrPhase : x.status = .sendAddr → b.rxlen = 0 ∧ 1 ≤ b.rxreq.toNat
  receiveCount : x.status = .receiving → x.dmaPhase = .off →
    b.rxlen + (if x.inflightNak then 1 else 2) ≤ b.rxreq.toNat
  dmaDir : x.dmaPhase ≠ .off → (d.dir = .tx ↔ k = .tx)
  dmaEnabled : d.enabled = true → x.dmaPhase = .bulk
  dmaEvent : ev ≠ none → x.dmaPhase = .bulk
  dmaDone : ev = some .done → d.last < d.next
  bulkStatus : x.dmaPhase = .bulk ∨ x.dmaPhase = .last → x.status ≠ .sendAddr
  rxAddr : x.dmaPhase = .addr → k = .rx → d.next = 0 ∧ d.last + 2 = b.rxreq.toNat
  rxBulk : x.dmaPhase = .bulk → k = .rx → d.next = b.rxlen ∧ b.rxlen ≤ d.last + 1 ∧ d.last + 2 = b.rxreq.toNat
  rxLast : x.dmaPhase = .last → k = .rx → b.rxlen + 1 = b.rxreq.toNat ∧ x.inflightNak = true

theorem transferInv_iff {c : Tc} :
    TransferInv c ↔ SlaveInv c.cfg.mode c.xfer.status c.slave ∧ ReceiveInv c.cfg.mode c.buf ∧
      AwaitInv c.cmd.op c.rcv.internal c.cmd.kind c.xfer.eff c.buf ∧ ChannelInv c.dma c.buf.txbuf ∧
      PhaseInv c.xfer c.cmd.kind c.buf c.dma c.port.dev := by
  constructor
  · intro h
    exact ⟨{ h with }, { h with }, { h with }, { h with }, { h with }⟩
  · rintro ⟨hs, hr, ha, hc, hp⟩
    exact { hs, hr, ha, hc, hp with }

@[simp] theorem setResult_kind (v : Word) (s : State) : (setResult v s).tc.cmd.kind = s.tc.cmd.kind := rfl

/-- The part of a TC that `TransferInv` reads is unchanged. -/
theorem TransferInv.congr {c d : Tc} (h : TransferInv c)
    (hm : d.cfg.mode = c.cfg.mode := by simp [rejectCmd])
    (hx : d.xfer.status = c.xfer.status ∧ d.xfer.eff = c.xfer.eff ∧ d.xfer.dmaPhase = c.xfer.dmaPhase ∧
      d.xfer.toFlag = c.xfer.toFlag ∧ d.xfer.inflightNak = c.xfer.inflightNak := by simp [rejectCmd])
    (hb : d.buf.txbuf = c.buf.txbuf ∧ d.buf.txlen = c.buf.txlen ∧ d.buf.rxbuf = c.buf.rxbuf ∧
      d.buf.rxlen = c.buf.rxlen ∧ d.buf.rxreq = c.buf.rxreq := by simp [rejectCmd])
    (hcmd : d.cmd.kind = c.cmd.kind ∧ d.cmd.op = c.cmd.op := by simp [rejectCmd])
    (hi : d.rcv.internal = c.rcv.internal := by simp [rejectCmd])
    (hs : d.slave.hold = c.slave.hold ∧ d.slave.watchArmed = c.slave.watchArmed := by simp [rejectCmd])
    (hd : d.dma.dir = c.dma.dir ∧ d.dma.next = c.dma.next ∧ d.dma.last = c.dma.last ∧
      d.dma.enabled = c.dma.enabled ∧ d.dma.pending = c.dma.pending := by simp [rejectCmd])
    (hdev : d.port.dev = c.port.dev := by simp [rejectCmd]) : TransferInv d := by
  obtain ⟨hst, heff, hph, htf, hnak⟩ := hx
  obtain ⟨htb, htl, hrb, hrl, hrq⟩ := hb
  obtain ⟨hdir, hnext, hlast, hen, hpend⟩ := hd
  cases h
  constructor <;>
    (simp only [awaitsBus, hm, hst, heff, hph, htf, hnak, htb, htl, hrb, hrl, hrq, hcmd, hi, hs, hdir, hnext, hlast,
      hen, hpend, hdev]
     assumption)

/-! ### No master transfer active -/

/-- A TC whose master side is at rest, with what a rest leaves of the transfer invariant. -/
theorem transferInv_of_rest {c : Tc} (hst : statusMasterActive c.xfer.status = false) (hph : c.xfer.dmaPhase = .off)
    (htf : c.xfer.toFlag = false) (hen : c.dma.enabled = false) (hdev : c.port.dev = none)
    (hs : SlaveInv c.cfg.mode c.xfer.status c.slave) (hr : ReceiveInv c.cfg.mode c.buf)
    (ha : AwaitInv c.cmd.op c.rcv.internal c.cmd.kind c.xfer.eff c.buf) (hc : ChannelInv c.dma c.buf.txbuf) :
    TransferInv c := by
  refine transferInv_iff.mpr ⟨hs, hr, ha, hc, ?_⟩
  have hsend : c.xfer.status ≠ .sendAddr := fun h => by simp [h, statusMasterActive] at hst
  have hrecv : c.xfer.status ≠ .receiving := fun h => by simp [h, statusMasterActive] at hst
  constructor <;> simp [hst, hph, htf, hen, hdev, hsend, hrecv]

/-- With no master transfer active the DMA channel is off and nothing is pending (10 R34 (a), (d)). -/
theorem TransferInv.at_rest {c : Tc} (h : TransferInv c) (hst : statusMasterActive c.xfer.status = false) :
    c.xfer.dmaPhase = .off ∧ c.xfer.toFlag = false ∧ c.dma.enabled = false ∧ c.port.dev = none := by
  have hph : c.xfer.dmaPhase = .off := by
    by_contra hne
    simp [h.phaseActive hne] at hst
  refine ⟨hph, ?_, ?_, ?_⟩
  · cases htf : c.xfer.toFlag with
    | false => rfl
    | true => simp [h.toFlagActive htf] at hst
  · cases hen : c.dma.enabled with
    | false => rfl
    | true => simp [h.dmaEnabled hen] at hph
  · by_contra hne
    simp [h.dmaEvent hne] at hph

/-- Where no acquisition is under way there is nothing to have ready. -/
theorem awaitInv_of_not {op : CmdOp} {internal : Bool} {k : Kind} {eff : Strategy} {b : BufRegs} (ho : op ≠ .acq)
    (hi : internal = false) : AwaitInv op internal k eff b :=
  ⟨fun hw => by simp [ho, hi] at hw, fun hw => by simp [ho, hi] at hw⟩

theorem TcInv.internal_false {p : Params} {c : Tc} (h : TcInv p c) (ho : c.cmd.op ≠ .recover) :
    c.rcv.internal = false := by
  cases hi : c.rcv.internal with
  | false => rfl
  | true => exact absurd (h.internalRecover hi) ho

/-- No acquisition is under way while no command is in progress. -/
theorem TcInv.awaitInv_of_free {p : Params} {c : Tc} {k : Kind} {eff : Strategy} {b : BufRegs} (hI : TcInv p c)
    (hbusy : c.cmd.busy = false) : AwaitInv c.cmd.op c.rcv.internal k eff b := by
  have ho := hI.busyOp.mp hbusy
  exact awaitInv_of_not (by simp [ho]) (hI.internal_false (by simp [ho]))

/-- No acquisition is under way while a master transfer is active. -/
theorem TcInv.awaitInv_of_active {p : Params} {c : Tc} {k : Kind} {eff : Strategy} {b : BufRegs} (hI : TcInv p c)
    (hact : statusMasterActive c.xfer.status = true) : AwaitInv c.cmd.op c.rcv.internal k eff b := by
  have hop : c.cmd.op ≠ .acq ∧ c.cmd.op ≠ .recover := by
    constructor <;> intro ho <;> simp [hI.acquireIdle, ho] at hact
  exact awaitInv_of_not hop.1 (hI.internal_false hop.2)

/-- A change of the slave side, made in slave mode: no master transfer is active before or after it. -/
theorem TransferInv.slaveSide {p : Params} {c d : Tc} (h : TransferInv c) (hI : TcInv p c) (hm : c.cfg.mode = .slave)
    (hst : statusMasterActive d.xfer.status = false) (hw : CellsBelow d.buf.rxbuf d.buf.rxlen)
    (hm' : d.cfg.mode = c.cfg.mode := by simp [slaveRxEnd])
    (hx : d.xfer.dmaPhase = c.xfer.dmaPhase ∧ d.xfer.toFlag = c.xfer.toFlag := by simp [slaveRxEnd])
    (hop : d.cmd.op = c.cmd.op := by simp [slaveRxEnd]) (hi : d.rcv.internal = c.rcv.internal := by simp [slaveRxEnd])
    (htx : d.buf.txbuf = c.buf.txbuf := by simp [slaveRxEnd]) (hdma : d.dma = c.dma := by simp [slaveRxEnd])
    (hdev : d.port.dev = c.port.dev := by simp [slaveRxEnd]) : TransferInv d := by
  have hidle : statusMasterActive c.xfer.status = false := by
    cases ha : statusMasterActive c.xfer.status with
    | false => rfl
    | true => simp [hI.activeMaster ha] at hm
  have hwait : ¬(c.cmd.op = .acq ∨ c.rcv.internal = true) := fun ha => by simp [hI.acquireMaster ha] at hm
  obtain ⟨hph, htf, hen, hd⟩ := h.at_rest hidle
  obtain ⟨-, -, -, hc, -⟩ := transferInv_iff.mp h
  have hs : d.cfg.mode = .slave := hm'.trans hm
  refine transferInv_of_rest hst (hx.1.trans hph) (hx.2.trans htf) (hdma ▸ hen) (hdev.trans hd)
    ⟨fun _ => hs, fun _ => hs, fun _ => hs⟩ ⟨fun hm => by simp [hs] at hm, hw⟩ ?_ (by rw [hdma, htx]; exact hc)
  rw [hop, hi]
  exact ⟨fun ha => absurd ha hwait, fun ha => absurd ha hwait⟩

/-! ### The ends of a master transfer -/

/-- What a TC must meet for the transfer in it to end (42 R175): all of the transfer invariant but the phase, of
which it is enough that the DMA channel is off where no phase is open. -/
structure Endable (c : Tc) : Prop where
  slave : SlaveInv c.cfg.mode c.xfer.status c.slave
  receive : ReceiveInv c.cfg.mode c.buf
  await : AwaitInv c.cmd.op c.rcv.internal c.cmd.kind c.xfer.eff c.buf
  channel : ChannelInv c.dma c.buf.txbuf
  closed : c.xfer.dmaPhase = .off → c.dma.enabled = false ∧ c.port.dev = none

theorem TransferInv.endable {c : Tc} (h : TransferInv c) : Endable c := by
  obtain ⟨hs, hr, ha, hc, -⟩ := transferInv_iff.mp h
  refine ⟨hs, hr, ha, hc, fun hph => ⟨?_, ?_⟩⟩
  · cases hen : c.dma.enabled with
    | false => rfl
    | true => simp [h.dmaEnabled hen] at hph
  · by_contra hne
    simp [h.dmaEvent hne] at hph

theorem statusMasterActive_of_done {st : Status} (h : statusDone st = true) : statusMasterActive st = false := by
  cases st <;> first | rfl | cases h

theorem statusSlaveActive_of_done {st : Status} (h : statusDone st = true) : statusSlaveActive st = false := by
  cases st <;> first | rfl | cases h

section
variable {s : State}

theorem Endable.congr {c d : Tc} (h : Endable c) (hst : statusDone d.xfer.status = true)
    (hm : d.cfg.mode = c.cfg.mode := by simp)
    (hx : d.xfer.eff = c.xfer.eff ∧ d.xfer.dmaPhase = c.xfer.dmaPhase := by simp)
    (hb : d.buf = c.buf := by simp) (hcmd : d.cmd = c.cmd := by simp) (hi : d.rcv.internal = c.rcv.internal := by simp)
    (hs : d.slave = c.slave := by simp) (hd : d.dma = c.dma := by simp) (hdev : d.port.dev = c.port.dev := by simp) :
    Endable d where
  slave := by
    rw [hm, hs]
    exact { h.slave with slavePhase := by simp [statusSlaveActive_of_done hst] }
  receive := by rw [hm, hb]; exact h.receive
  await := by rw [hcmd, hi, hx.1, hb]; exact h.await
  channel := by rw [hd, hb]; exact h.channel
  closed := by rw [hx.2, hd, hdev]; exact h.closed

/-- Shutting down the channel leaves it off and its event slot empty (42 R175). -/
theorem dmaShutdown_channel (h : s.tc.xfer.dmaPhase = .off → s.tc.dma.enabled = false ∧ s.tc.port.dev = none) :
    (dmaShutdown s).tc.dma = { s.tc.dma with enabled := false } ∧ (dmaShutdown s).tc.port.dev = none := by
  unfold dmaShutdown
  split
  · next hph =>
    obtain ⟨hen, hdev⟩ := h hph
    exact ⟨by rw [← hen], hdev⟩
  · exact ⟨rfl, rfl⟩

@[simp] theorem finalize_dma (s : State) : (finalize s).tc.dma = (dmaShutdown s).tc.dma := by
  unfold finalize finalizeFlags
  simp only []
  split <;> simp

@[simp] theorem finalize_port (s : State) : (finalize s).tc.port = (dmaShutdown s).tc.port := by
  unfold finalize finalizeFlags
  simp only []
  split <;> simp

theorem transferInv_finalize (h : Endable s.tc) (hst : statusMasterActive s.tc.xfer.status = false) :
    TransferInv (finalize s).tc := by
  obtain ⟨hdma, hdev⟩ := dmaShutdown_channel h.closed
  have ha : AwaitInv (finalize s).tc.cmd.op s.tc.rcv.internal (finalize s).tc.cmd.kind s.tc.xfer.eff s.tc.buf := by
    rw [finalize_cmd]
    split
    · exact ⟨fun hw => h.await.txReady (.inr (by simpa using hw)), fun hw => h.await.rxReady (.inr (by simpa using hw))⟩
    · exact h.await
  have hc : ChannelInv { s.tc.dma with enabled := false } s.tc.buf.txbuf := { h.channel with }
  apply transferInv_of_rest <;> simp only [finalize_xfer, finalize_cfg, finalize_slave, finalize_buf, finalize_rcv,
    finalize_dma, finalize_port, hdma, hdev]
  · exact hst
  · exact h.slave
  · exact h.receive
  · exact ha
  · exact hc

theorem transferInv_endArbLost (h : Endable s.tc) : TransferInv (endArbLost s).tc :=
  transferInv_finalize (h.congr rfl) rfl

theorem transferInv_endWithStop {st : Status} (h : Endable s.tc) (hst : statusDone st = true) :
    TransferInv (endWithStop st s).tc :=
  transferInv_finalize (h.congr (by simpa)) (by simpa using statusMasterActive_of_done hst)

theorem transferInv_endSuccess {ev : HostEv} (h : Endable s.tc) : TransferInv (endSuccess ev s).tc := by
  unfold endSuccess
  apply transferInv_finalize
  · split_ifs <;> exact h.congr (by simp [statusDone])
  · split_ifs <;> simp [statusMasterActive]

end

end Sys2Proof.Machine
end

section
/-!
SUPPORT. Every rule of the TC keeps the transfer invariant where no address match waits in master mode.
-/

namespace Sys2Proof.Machine

section
variable {p : Params} {s : State}

/-! ### The launch of a transfer (42 R167, R222, 43 R193, R223) -/

/-- The first byte goes out, and the command waits for the transfer or has returned (41 R145). -/
theorem transferInv_afterLaunch {v : Byte} {k : Kind} {u : State} (hi : u.tc.rcv.internal = false)
    (hs : SlaveInv u.tc.cfg.mode u.tc.xfer.status u.tc.slave) (hr : ReceiveInv u.tc.cfg.mode u.tc.buf)
    (hc : ChannelInv u.tc.dma u.tc.buf.txbuf) (hk : u.tc.cmd.kind = k) (hdev : u.tc.port.dev = none)
    (hp : PhaseInv u.tc.xfer k u.tc.buf u.tc.dma none) : TransferInv (afterLaunch (emit (.write v) u)).tc := by
  have ha {op : CmdOp} (ho : op ≠ .acq) : AwaitInv op false k u.tc.xfer.eff u.tc.buf := awaitInv_of_not ho rfl
  unfold afterLaunch
  split
  · simpa [transferInv_iff, hi, hk, hdev] using ⟨hs, hr, ha (by simp), hc, hp⟩
  · simpa [transferInv_iff, completeCmd, hi, hk, hdev] using ⟨hs, hr, ha (by simp), hc, hp⟩

section
variable {x : XferRegs} {b : BufRegs} {d : DmaRegs} (htf : x.toFlag = false)
include htf

theorem phaseInv_launchTx (hst : x.status = .sending) (hph : x.dmaPhase = .off) (hen : d.enabled = false) :
    PhaseInv x .tx b d none := by
  constructor <;> simp [htf, hst, hph, hen, statusMasterActive]

theorem phaseInv_launchTxDma (hst : x.status = .sending) (hph : x.dmaPhase = .addr) (heff : x.eff = .dma)
    (hen : d.enabled = false) (hdir : d.dir = .tx) (hlen : 4 ≤ b.txlen) : PhaseInv x .tx b d none := by
  constructor <;> simp [htf, hst, hph, hen, heff, hdir, hlen, statusMasterActive]

theorem phaseInv_launchRx (hst : x.status = .sendAddr) (hph : x.dmaPhase = .off) (hen : d.enabled = false)
    (hlen : b.rxlen = 0 ∧ 1 ≤ b.rxreq.toNat) : PhaseInv x .rx b d none := by
  constructor <;> simp [htf, hst, hph, hen, hlen, statusMasterActive]

theorem phaseInv_launchRxDma (hst : x.status = .sendAddr) (hph : x.dmaPhase = .addr) (heff : x.eff = .dma)
    (hen : d.enabled = false) (hdir : d.dir = .rx) (hlen : b.rxlen = 0 ∧ 2 ≤ b.rxreq.toNat)
    (hrange : d.next = 0 ∧ d.last + 2 = b.rxreq.toNat) : PhaseInv x .rx b d none := by
  have hpos : 1 ≤ b.rxreq.toNat := by omega
  constructor <;> simp [htf, hst, hph, hen, heff, hdir, hlen, hrange, hpos, statusMasterActive]

end

theorem transferInv_txLaunch (hI : TcInv p s.tc) (h : TransferInv s.tc) (ho : s.tc.cmd.op = .acq)
    (hk : s.tc.cmd.kind = .tx) : Yields (fun t => TransferInv (afterLaunch t).tc) (txLaunch s) := by
  have hi := hI.internal_false (by simp [ho])
  obtain ⟨hph, htf, hen, hdev⟩ := h.at_rest (hI.acquireIdle (.inl ho))
  obtain ⟨hs, hr, ha, hc, -⟩ := transferInv_iff.mp h
  obtain ⟨-, hfloor⟩ := ha.txReady (.inl ho) hk
  have hs' : SlaveInv s.tc.cfg.mode .sending s.tc.slave := { hs with slavePhase := by simp [statusSlaveActive] }
  have hr' : ReceiveInv s.tc.cfg.mode { s.tc.buf with txidx := 0 } := { hr with }
  unfold txLaunch
  simp only [yields_readTx, yields_next]
  split_ifs with heff
  · have hlen := hfloor heff
    have hcells : ∀ i, 2 ≤ i → i ≤ 2 + (s.tc.buf.txlen - 3) - 1 → (s.tc.buf.txbuf.read i).isSome = true :=
      fun i _ hi => hI.txWritten i (by omega)
    exact fun _ _ => transferInv_afterLaunch hi hs' hr' ⟨by simp [dmaTxSetup, emit, portEffect], fun _ => hcells⟩
      hk hdev (phaseInv_launchTxDma htf rfl rfl heff rfl rfl hlen)
  · exact fun _ _ => transferInv_afterLaunch hi hs' hr' hc hk hdev (phaseInv_launchTx htf rfl hph hen)

theorem transferInv_rxLaunch (hI : TcInv p s.tc) (h : TransferInv s.tc) (ho : s.tc.cmd.op = .acq)
    (hk : s.tc.cmd.kind = .rx) : Yields (fun t => TransferInv (afterLaunch t).tc) (rxLaunch s) := by
  have hi := hI.internal_false (by simp [ho])
  obtain ⟨hph, htf, hen, hdev⟩ := h.at_rest (hI.acquireIdle (.inl ho))
  obtain ⟨hs, hr, ha, hc, -⟩ := transferInv_iff.mp h
  obtain ⟨hrxlen, hpos, hfloor⟩ := ha.rxReady (.inl ho) hk
  have hs' : SlaveInv s.tc.cfg.mode .sendAddr s.tc.slave := { hs with slavePhase := by simp [statusSlaveActive] }
  unfold rxLaunch
  simp only [yields_next]
  split_ifs with heff
  · have hlen := hfloor heff
    have hlast : 0 + (s.tc.buf.rxreq.toNat - 1) - 1 + 2 = s.tc.buf.rxreq.toNat := by omega
    exact transferInv_afterLaunch hi hs' hr
      ⟨by simp [dmaRxSetup, emit, portEffect], by simp [dmaRxSetup, emit, portEffect]⟩ hk hdev
      (phaseInv_launchRxDma htf rfl rfl heff rfl rfl ⟨hrxlen, hlen⟩ ⟨rfl, hlast⟩)
  · exact transferInv_afterLaunch hi hs' hr hc hk hdev (phaseInv_launchRx htf rfl hph hen ⟨hrxlen, hpos⟩)

theorem transferInv_launch (hI : TcInv p s.tc) (h : TransferInv s.tc) (ho : s.tc.cmd.op = .acq) :
    Yields (fun t => TransferInv t.tc) (launch s) := by
  unfold launch
  rw [yields_mapNext]
  split
  · next hk => exact transferInv_txLaunch hI h ho hk
  · next hk => exact transferInv_rxLaunch hI h ho hk

/-! ### Acquisition and recovery -/

theorem transferInv_acqFail (hI : TcInv p s.tc) (h : TransferInv s.tc) (ho : s.tc.cmd.op = .acq) :
    TransferInv (acqFail s).tc := by
  obtain ⟨hph, htf, hen, hdev⟩ := h.at_rest (hI.acquireIdle (.inl ho))
  obtain ⟨hs, hr, ha, hc, hp⟩ := transferInv_iff.mp h
  unfold acqFail
  split
  · have ha' : AwaitInv .recover true s.tc.cmd.kind s.tc.xfer.eff s.tc.buf :=
      ⟨fun _ => ha.txReady (.inl ho), fun _ => ha.rxReady (.inl ho)⟩
    simpa [transferInv_iff, startRecovery_rcv] using ⟨hs, hr, ha', hc, hp⟩
  · have ha' := awaitInv_of_not (op := .none) (k := s.tc.cmd.kind) (eff := s.tc.xfer.eff) (b := s.tc.buf) (by simp)
      (hI.internal_false (by simp [ho]))
    exact transferInv_of_rest rfl hph htf hen hdev { hs with slavePhase := by simp [acqGiveUp, statusSlaveActive] } hr
      ha' hc

theorem transferInv_fireAcquire (hI : TcInv p s.tc) (h : TransferInv s.tc) (hg : canAcquire s = true) :
    Yields (fun t => TransferInv t.tc) (fireAcquire s) := by
  simp only [canAcquire, Bool.and_eq_true, beq_iff_eq] at hg
  obtain ⟨⟨⟨-, ho⟩, -⟩, -⟩ := hg
  unfold fireAcquire
  split_ifs
  · exact transferInv_launch (s := emit .rstart s) hI.congr h.congr ho
  · exact transferInv_launch (s := { emit .start s with tc.xfer.masterHeld := true }) hI.congr h.congr ho
  · exact yields_next.mpr (transferInv_acqFail hI h ho)

theorem transferInv_endRecovery (hI : TcInv p s.tc) (h : TransferInv s.tc) (ho : s.tc.cmd.op = .recover) :
    TransferInv (endRecovery s).tc := by
  obtain ⟨-, -, hen, hdev⟩ := h.at_rest (hI.acquireIdle (.inr ho))
  obtain ⟨hs, hr, ha, hc, -⟩ := transferInv_iff.mp h
  have hi : (recoveryCleanup s).tc.rcv.internal = s.tc.rcv.internal := by simp [recoveryCleanup]
  have hs' : SlaveInv s.tc.cfg.mode .waiting s.tc.slave := { hs with slavePhase := by simp [statusSlaveActive] }
  unfold endRecovery
  simp only [hi]
  split_ifs with hint
  · have ha' : AwaitInv .acq false s.tc.cmd.kind s.tc.xfer.eff s.tc.buf :=
      ⟨fun _ => ha.txReady (.inr hint), fun _ => ha.rxReady (.inr hint)⟩
    apply transferInv_of_rest <;> simp [recoveryCleanup, statusMasterActive, hen, hdev, hs', hr, ha', hc]
  · have ha' := awaitInv_of_not (op := .none) (k := s.tc.cmd.kind) (eff := s.tc.xfer.eff) (b := s.tc.buf) (by simp) rfl
    apply transferInv_of_rest <;>
      simp [recoveryCleanup, completeCmd, statusMasterActive, hen, hdev, hs', hr, ha', hc, hint]

theorem transferInv_fireRecover (hI : TcInv p s.tc) (h : TransferInv s.tc) (hg : canRecover s = true) :
    Yields (fun t => TransferInv t.tc) (fireRecover s) := by
  simp only [canRecover, Bool.and_eq_true, beq_iff_eq] at hg
  obtain ⟨⟨-, ho⟩, -⟩ := hg
  unfold fireRecover
  split
  · simp only [yields_ite, yields_next]
    exact ⟨fun _ => transferInv_endRecovery hI h ho, fun _ => h.congr⟩
  · exact yields_next.mpr h.congr
  · exact yields_next.mpr h.congr
  · simp

/-! ### Rules of a master transfer -/

theorem transferInv_fireTimeout (h : TransferInv s.tc) (hg : canTimeout s = true) :
    Yields (fun t => TransferInv t.tc) (fireTimeout s) := by
  simp only [canTimeout, Bool.and_eq_true] at hg
  obtain ⟨⟨⟨-, hact⟩, -⟩, -⟩ := hg
  exact yields_next.mpr { h with toFlagActive := fun _ => hact }

theorem transferInv_txNak (h : TransferInv s.tc) : TransferInv (txNak s).tc := by
  unfold txNak
  split
  · exact transferInv_endWithStop (TransferInv.endable h.congr) rfl
  · exact transferInv_endWithStop (TransferInv.endable h.congr) rfl

theorem transferInv_txNext (h : TransferInv s.tc) (hst : s.tc.xfer.status = .sending) :
    Yields (fun t => TransferInv t.tc) (txNext s) := by
  have hk : s.tc.cmd.kind = .tx := (h.kindMatches (by rw [hst]; rfl)).mp hst
  unfold txNext
  simp only [yields_ite, yields_next, yields_readTx]
  refine ⟨fun ⟨hph, _⟩ => ?_, fun _ _ _ => h.congr⟩
  have hopen : s.tc.xfer.dmaPhase ≠ .off := by simp [hph]
  exact { h with
    phaseEff := fun _ => h.phaseEff hopen
    phaseActive := fun _ => h.phaseActive hopen
    phaseFloor := fun _ => h.phaseFloor hopen
    receiveCount := fun hr => by simp [dmaTxEnterBulk, emit, portEffect, hst] at hr
    dmaDir := fun _ => h.dmaDir hopen
    dmaEnabled := fun _ => rfl
    dmaEvent := fun _ => rfl
    bulkStatus := fun _ => by simp [dmaTxEnterBulk, emit, portEffect, hst]
    rxAddr := fun hp => by simp [dmaTxEnterBulk, emit, portEffect] at hp
    rxBulk := fun _ hr => by simp [dmaTxEnterBulk, emit, portEffect, hk] at hr
    rxLast := fun hp => by simp [dmaTxEnterBulk, emit, portEffect] at hp }

theorem transferInv_txCompletion {arbl rxak : Bool} (h : TransferInv s.tc) (hst : s.tc.xfer.status = .sending) :
    Yields (fun t => TransferInv t.tc) (txCompletion arbl rxak s) := by
  unfold txCompletion
  split_ifs
  · exact yields_next.mpr (transferInv_endArbLost h.endable)
  · exact yields_next.mpr (transferInv_endWithStop h.endable rfl)
  · exact yields_next.mpr (transferInv_txNak h)
  · exact transferInv_txNext h hst
  · exact yields_next.mpr (transferInv_endSuccess h.endable)

section
variable {x : XferRegs} {b : BufRegs} {d : DmaRegs} (hst : x.status = .receiving)
include hst

/-- A receive without an open DMA phase (43 R199, R200). -/
theorem phaseInv_receiving (hph : x.dmaPhase = .off) (hen : d.enabled = false)
    (hcount : b.rxlen + (if x.inflightNak then 1 else 2) ≤ b.rxreq.toNat) : PhaseInv x .rx b d none := by
  constructor <;> simp [hst, hph, hen, hcount, statusMasterActive]

/-- The DMA channel receives (44 R224). -/
theorem phaseInv_receivingBulk (hph : x.dmaPhase = .bulk) (heff : x.eff = .dma) (hdir : d.dir = .rx)
    (hlen : 2 ≤ b.rxreq.toNat)
    (hrange : d.next = b.rxlen ∧ b.rxlen ≤ d.last + 1 ∧ d.last + 2 = b.rxreq.toNat) : PhaseInv x .rx b d none := by
  constructor <;> simp [hst, hph, heff, hdir, hlen, hrange, statusMasterActive]

end

theorem TransferInv.kind_rx {c : Tc} (h : TransferInv c) (hact : statusMasterActive c.xfer.status = true)
    (hne : c.xfer.status ≠ .sending) : c.cmd.kind = .rx := by
  cases hk : c.cmd.kind with
  | rx => rfl
  | tx => exact absurd ((h.kindMatches hact).mpr hk) hne

/-- The direction of a programmed channel is the kind of the transfer (44 R222, R223). -/
theorem TransferInv.dir_rx_iff {c : Tc} (h : TransferInv c) (hopen : c.xfer.dmaPhase ≠ .off) :
    c.dma.dir = .rx ↔ c.cmd.kind = .rx := by
  have htx := h.dmaDir hopen
  cases hd : c.dma.dir <;> cases hk : c.cmd.kind <;> simp [hd, hk] at htx ⊢

/-- The DMA channel takes over after the address byte (44 R224). -/
theorem transferInv_dmaRxEnterBulk (h : TransferInv s.tc) (hst : s.tc.xfer.status = .sendAddr)
    (hph : s.tc.xfer.dmaPhase = .addr) (hk : s.tc.cmd.kind = .rx) : TransferInv (dmaRxEnterBulk s).tc := by
  have hopen : s.tc.xfer.dmaPhase ≠ .off := by simp [hph]
  obtain ⟨hrxlen, -⟩ := h.addrPhase hst
  obtain ⟨hnext, hlast⟩ := h.rxAddr hph hk
  have hdev : s.tc.port.dev = none := by
    by_contra hne
    simp [h.dmaEvent hne] at hph
  obtain ⟨hs, hr, ha, hc, -⟩ := transferInv_iff.mp h
  have hp : PhaseInv { s.tc.xfer with status := .receiving, dmaPhase := .bulk } .rx s.tc.buf
      { s.tc.dma with enabled := true, ready := true } none :=
    phaseInv_receivingBulk rfl rfl (h.phaseEff hopen) ((h.dir_rx_iff hopen).mpr hk) ((h.phaseFloor hopen).2 hk)
      ⟨hnext.trans hrxlen.symm, by omega, hlast⟩
  rw [← hk, ← hdev] at hp
  exact transferInv_iff.mpr ⟨{ hs with slavePhase := fun hf => by cases hf }, hr, ha, { hc with }, hp⟩

theorem transferInv_addrAcked (h : TransferInv s.tc) (hst : s.tc.xfer.status = .sendAddr) :
    TransferInv (addrAcked s).tc := by
  have hk : s.tc.cmd.kind = .rx := h.kind_rx (by rw [hst]; rfl) (by simp [hst])
  obtain ⟨hrxlen, hpos⟩ := h.addrPhase hst
  obtain ⟨hs, hr, ha, hc, -⟩ := transferInv_iff.mp h
  have hs' : SlaveInv s.tc.cfg.mode .receiving s.tc.slave := { hs with slavePhase := by simp [statusSlaveActive] }
  unfold addrAcked
  split_ifs with htf hph
  · obtain ⟨hdma, hdev⟩ := dmaShutdown_channel h.endable.closed
    have hc' : ChannelInv { s.tc.dma with enabled := false } s.tc.buf.txbuf := { hc with }
    simpa [transferInv_iff, issueRecv, hdma, hdev, hk] using ⟨hs', hr, hk ▸ ha, hc',
      phaseInv_receiving (x := { s.tc.xfer with dmaPhase := .off, status := .receiving, inflightNak := true }) rfl rfl
        rfl (by simpa [hrxlen])⟩
  · exact transferInv_dmaRxEnterBulk h hst hph hk
  · have hoff : s.tc.xfer.dmaPhase = .off := by
      cases hd : s.tc.xfer.dmaPhase with
      | off => rfl
      | addr => exact absurd hd hph
      | bulk => exact absurd hst (h.bulkStatus (.inl hd))
      | last => exact absurd hst (h.bulkStatus (.inr hd))
    obtain ⟨hen, hdev⟩ := h.endable.closed hoff
    have hcount : s.tc.buf.rxlen + (if s.tc.buf.rxreq == 1 then 1 else 2) ≤ s.tc.buf.rxreq.toNat := by
      split_ifs with h1
      · omega
      · have hne : s.tc.buf.rxreq.toNat ≠ 1 := fun he => h1 (by simp [BitVec.toNat_eq, he])
        omega
    simpa [transferInv_iff, issueRecv, hdev, hk] using ⟨hs', hr, hk ▸ ha, hc,
      phaseInv_receiving (x := { s.tc.xfer with status := .receiving, inflightNak := s.tc.buf.rxreq == 1 }) rfl hoff hen
        hcount⟩

theorem transferInv_fireAddrDone (h : TransferInv s.tc) (hg : canAddrDone s = true) :
    Yields (fun t => TransferInv t.tc) (fireAddrDone s) := by
  simp only [canAddrDone, Bool.and_eq_true, beq_iff_eq] at hg
  obtain ⟨⟨hst, -⟩, -⟩ := hg
  unfold fireAddrDone addrNaked
  split
  · simp only [yields_ite, yields_next]
    refine ⟨fun _ => transferInv_endArbLost (TransferInv.endable h.congr), fun _ => ⟨fun _ => ?_, fun _ =>
      transferInv_addrAcked h.congr hst⟩⟩
    split_ifs
    · exact transferInv_endWithStop (TransferInv.endable h.congr) rfl
    · exact transferInv_endWithStop (TransferInv.endable h.congr) rfl
  · simp

/-- The TC after the byte `d` is stored at `rxlen` (43 R200, R201). -/
def storedRx (d : Byte) (c : Tc) : Tc :=
  { c with buf := { c.buf with rxbuf := c.buf.rxbuf.write c.buf.rxlen d, rxlen := c.buf.rxlen + 1 } }

/-- A receive with room for the byte can end after storing it. -/
theorem endable_storedRx {c : Tc} (d : Byte) (hI : TcInv p c) (h : TransferInv c)
    (hact : statusMasterActive c.xfer.status = true) (hroom : c.buf.rxlen + 1 ≤ c.buf.rxreq.toNat) :
    Endable (storedRx d c) where
  slave := h.endable.slave
  receive := ⟨fun _ => hroom, cellsBelow_append _ _ _ h.rxWritten⟩
  await := hI.awaitInv_of_active hact
  channel := h.endable.channel
  closed := h.endable.closed

theorem transferInv_fireRxByte (hI : TcInv p s.tc) (h : TransferInv s.tc) (hg : canRxByte s = true) :
    Yields (fun t => TransferInv t.tc) (fireRxByte s) := by
  simp only [canRxByte, Bool.and_eq_true, beq_iff_eq, Bool.not_eq_true'] at hg
  obtain ⟨⟨⟨⟨hst, -⟩, hnak⟩, hoff⟩, -⟩ := hg
  have hact : statusMasterActive s.tc.xfer.status = true := by rw [hst]; rfl
  have hroom : s.tc.buf.rxlen + 2 ≤ s.tc.buf.rxreq.toNat := by simpa [hnak] using h.receiveCount hst hoff
  have hk : s.tc.cmd.kind = .rx := h.kind_rx hact (by simp [hst])
  obtain ⟨hen, hdev⟩ := h.endable.closed hoff
  unfold fireRxByte
  split
  · next e _ =>
    simp only [yields_ite, yields_next, yields_storeRx]
    refine ⟨fun _ => transferInv_endArbLost (TransferInv.endable h.congr), fun _ _ => ?_⟩
    obtain ⟨hs, hr, ha, hc, -⟩ := endable_storedRx e.2 hI h hact (by omega)
    have hp {nak : Bool} (hcount : s.tc.buf.rxlen + 1 + (if nak then 1 else 2) ≤ s.tc.buf.rxreq.toNat) :
        PhaseInv { s.tc.xfer with inflightNak := nak } .rx (storedRx e.2 s.tc).buf s.tc.dma none :=
      phaseInv_receiving hst hoff hen hcount
    simp only [transferInv_iff, issueRecv, emit_cfg, emit_xfer, emit_slave, emit_buf, emit_cmd, emit_rcv, emit_dma,
      emit_port, hk, hdev]
    refine ⟨hs, hr, hk ▸ ha, hc, hp ?_⟩
    split_ifs with hlast
    · omega
    · simp only [Bool.or_eq_true, beq_iff_eq, not_or] at hlast
      omega
  · simp

theorem transferInv_fireRxFinal (hI : TcInv p s.tc) (h : TransferInv s.tc) (hg : canRxFinal s = true) :
    Yields (fun t => TransferInv t.tc) (fireRxFinal s) := by
  simp only [canRxFinal, Bool.and_eq_true, Bool.or_eq_true, beq_iff_eq] at hg
  obtain ⟨⟨⟨⟨hst, -⟩, hnak⟩, hph⟩, -⟩ := hg
  have hact : statusMasterActive s.tc.xfer.status = true := by rw [hst]; rfl
  have hroom : s.tc.buf.rxlen + 1 ≤ s.tc.buf.rxreq.toNat := by
    rcases hph with hoff | hlast
    · simpa [hnak] using h.receiveCount hst hoff
    · exact (h.rxLast hlast (h.kind_rx hact (by simp [hst]))).1.le
  unfold fireRxFinal
  split
  · next e _ =>
    have hend : Endable (storedRx e.2 { s.tc with port := { s.tc.port with lev := none } }) :=
      endable_storedRx (p := p) e.2 hI.congr h.congr hact hroom
    simp only [yields_ite, yields_next, yields_storeRx]
    exact ⟨fun _ => transferInv_endArbLost (TransferInv.endable h.congr), fun _ _ =>
      ⟨fun _ => transferInv_endWithStop hend rfl, fun _ => transferInv_endSuccess hend⟩⟩
  · simp

theorem transferInv_fireBulkError (h : TransferInv s.tc) : Yields (fun t => TransferInv t.tc) (fireBulkError s) := by
  unfold fireBulkError
  simp only [yields_ite, yields_next]
  exact ⟨fun _ => transferInv_endArbLost (TransferInv.endable h.congr), fun _ =>
    ⟨fun _ => transferInv_endWithStop (TransferInv.endable h.congr) rfl,
      fun _ => transferInv_endWithStop (TransferInv.endable h.congr) rfl⟩⟩

/-- An event slot that is emptied breaks nothing. -/
theorem TransferInv.clearDev {c : Tc} (h : TransferInv c) :
    TransferInv { c with port := { c.port with dev := none } } :=
  { h with dmaEvent := fun hne => absurd rfl hne, dmaDone := fun hd => by cases hd }

theorem transferInv_fireDmaError (h : TransferInv s.tc) : Yields (fun t => TransferInv t.tc) (fireDmaError s) := by
  have hend := h.clearDev
  unfold fireDmaError
  simp only [yields_ite, yields_next]
  exact ⟨fun _ => transferInv_endArbLost hend.endable, fun _ =>
    transferInv_endWithStop (TransferInv.endable hend.congr) rfl⟩

/-- DMA_DONE: the channel has moved all but the last byte (44 R226). -/
theorem phaseInv_dmaDone {x : XferRegs} {k : Kind} {b : BufRegs} {d : DmaRegs} {nak : Bool}
    (h : PhaseInv x k b d (some .done)) (hph : x.dmaPhase = .bulk) (hnak : k = .rx → nak = true) :
    PhaseInv { x with dmaPhase := .last, inflightNak := nak } k b { d with enabled := false } none := by
  have hopen : x.dmaPhase ≠ .off := by simp [hph]
  exact { h with
    phaseEff := fun _ => h.phaseEff hopen
    phaseActive := fun _ => h.phaseActive hopen
    phaseFloor := fun _ => h.phaseFloor hopen
    receiveCount := by simp
    dmaDir := fun _ => h.dmaDir hopen
    dmaEnabled := by simp
    dmaEvent := by simp
    dmaDone := by simp
    bulkStatus := fun _ => h.bulkStatus (.inl hph)
    rxAddr := by simp
    rxBulk := by simp
    rxLast := fun _ hk => by
      obtain ⟨hnext, hle, hlast⟩ := h.rxBulk hph hk
      have hdone := h.dmaDone rfl
      exact ⟨by omega, hnak hk⟩ }

theorem transferInv_fireDmaDone (h : TransferInv s.tc) (hg : canDmaDone s = true) :
    Yields (fun t => TransferInv t.tc) (fireDmaDone s) := by
  simp only [canDmaDone, Bool.and_eq_true, beq_iff_eq] at hg
  obtain ⟨⟨-, hph⟩, hdev⟩ := hg
  obtain ⟨hs, hr, ha, hc, hp⟩ := transferInv_iff.mp h
  rw [hdev] at hp
  unfold fireDmaDone
  split
  · next hk =>
    have hlast := phaseInv_dmaDone hp hph (nak := s.tc.xfer.inflightNak) (by simp [hk])
    exact yields_next.mpr (transferInv_iff.mpr ⟨hs, { hr with }, { ha with }, { hc with }, { hlast with }⟩)
  · have hlast := phaseInv_dmaDone hp hph (nak := true) (by simp)
    exact yields_next.mpr (transferInv_iff.mpr ⟨hs, hr, ha, { hc with }, hlast⟩)

/-! ### Rules of the slave dispatcher -/

theorem transferInv_boundary (hI : TcInv p s.tc) (h : TransferInv s.tc) (hg : canBoundary s = true) :
    Yields (fun t => TransferInv t.tc) (fireBoundary s) := by
  simp only [canBoundary, Bool.and_eq_true, beq_iff_eq] at hg
  obtain ⟨⟨-, hst⟩, -⟩ := hg
  have hm := h.slavePhase (by rw [hst]; rfl)
  exact yields_next.mpr (h.slaveSide hI hm (by simp [hst, statusMasterActive]) (by simpa using h.rxWritten))

theorem transferInv_slaveSetup {rw : Bool} (hI : TcInv p s.tc) (h : TransferInv s.tc) (hm : s.tc.cfg.mode = .slave) :
    TransferInv (slaveSetup rw s).tc := by
  have hempty : CellsBelow s.tc.buf.rxbuf 0 := by simp [CellsBelow]
  unfold slaveSetup slaveTxSetup slaveRxSetup
  simp only []
  split_ifs
  · exact h.slaveSide hI hm rfl h.rxWritten
  · exact h.slaveSide hI hm (by simp [statusMasterActive]) (by simpa using h.rxWritten)
  · exact h.slaveSide hI hm rfl hempty
  · exact h.slaveSide hI hm rfl hempty

theorem transferInv_fireDispatch (hI : TcInv p s.tc) (h : TransferInv s.tc)
    (hstray : s.tc.cfg.mode = .master → ¬AddressWaits s.tc) : Yields (fun t => TransferInv t.tc) (fireDispatch s) := by
  unfold fireDispatch
  split
  · next e he =>
    have hwaits : AddressWaits s.tc := ⟨e.1, e.2, pendingAddr_eq_some.mp he⟩
    have hm : s.tc.cfg.mode = .slave := by
      cases hm : s.tc.cfg.mode with
      | slave => rfl
      | master => exact absurd hwaits (hstray hm)
    exact yields_next.mpr (transferInv_slaveSetup (p := p) hI.congr h.congr hm)
  · simp

theorem transferInv_slaveRxEnd (hI : TcInv p s.tc) (h : TransferInv s.tc) (hm : s.tc.cfg.mode = .slave) :
    TransferInv (slaveRxEnd s).tc :=
  h.slaveSide hI hm (by simp [slaveRxEnd, statusMasterActive]) (by simpa [slaveRxEnd] using h.rxWritten)

theorem transferInv_fireSlaveRx (hI : TcInv p s.tc) (h : TransferInv s.tc) (hg : canSlaveRx s = true) :
    Yields (fun t => TransferInv t.tc) (fireSlaveRx s) := by
  simp only [canSlaveRx, Bool.and_eq_true, beq_iff_eq] at hg
  have hst := hg.2
  have hm := h.slavePhase (by rw [hst]; rfl)
  unfold fireSlaveRx
  split
  · simp only [yields_ite, yields_next, yields_storeRx]
    exact ⟨fun _ _ => h.slaveSide hI hm (by simp [hst, statusMasterActive]) (cellsBelow_append _ _ _ h.rxWritten),
      fun _ => h.congr⟩
  · simp

theorem transferInv_fireSlaveTx (hI : TcInv p s.tc) (h : TransferInv s.tc) (hg : canSlaveTx s = true) :
    Yields (fun t => TransferInv t.tc) (fireSlaveTx s) := by
  simp only [canSlaveTx, Bool.and_eq_true, beq_iff_eq] at hg
  have hm := h.slavePhase (by rw [hg.2]; rfl)
  unfold fireSlaveTx
  split
  · simp only [yields_ite, yields_next, yields_sendOrZero]
    exact ⟨fun _ => ⟨fun _ _ _ => h.congr, fun _ => h.congr⟩, fun _ => h.slaveSide hI hm rfl h.rxWritten⟩
  · simp

theorem transferInv_fireStopDetect (hI : TcInv p s.tc) (h : TransferInv s.tc) :
    Yields (fun t => TransferInv t.tc) (fireStopDetect s) := by
  unfold fireStopDetect
  simp only [yields_ite, yields_next]
  exact ⟨fun hst => transferInv_slaveRxEnd (p := p) hI.congr h.congr (h.slavePhase (by rw [hst]; rfl)), fun _ =>
    ⟨fun hst => h.slaveSide hI (h.slavePhase (by rw [hst]; rfl)) rfl h.rxWritten, fun _ => h.congr⟩⟩

theorem transferInv_fireSdaEdge (hI : TcInv p s.tc) (h : TransferInv s.tc) :
    Yields (fun t => TransferInv t.tc) (fireSdaEdge s) := by
  unfold fireSdaEdge
  simp only [yields_ite, yields_next, Bool.not_eq_true', Bool.not_eq_false]
  exact ⟨fun _ => h.congr, fun hw => ⟨fun _ => transferInv_slaveRxEnd (p := p) hI.congr h.congr (h.watchSlave hw),
    fun _ => ⟨fun _ => { h with watchSlave := fun hf => by cases hf }, fun _ => h.congr⟩⟩⟩

theorem transferInv_fireRule (r : Rule) (hI : TcInv p s.tc) (h : TransferInv s.tc)
    (hstray : s.tc.cfg.mode = .master → ¬AddressWaits s.tc) (hg : ruleEnabled r s = true) :
    Yields (fun t => TransferInv t.tc) (fireRule r s) := by
  cases r with
  | acquire => exact transferInv_fireAcquire hI h hg
  | recover => exact transferInv_fireRecover hI h hg
  | timeout => exact transferInv_fireTimeout h hg
  | txDone =>
    simp only [ruleEnabled, canTxDone, Bool.and_eq_true, beq_iff_eq] at hg
    obtain ⟨⟨⟨hst, -⟩, -⟩, -⟩ := hg
    simp only [fireRule, fireTxDone]
    split
    · exact transferInv_txCompletion h.congr hst
    · simp
  | addrDone => exact transferInv_fireAddrDone h hg
  | rxByte => exact transferInv_fireRxByte hI h hg
  | rxFinal => exact transferInv_fireRxFinal hI h hg
  | bulkError => exact transferInv_fireBulkError h
  | dmaDone => exact transferInv_fireDmaDone h hg
  | dmaError => exact transferInv_fireDmaError h
  | dmaStale => exact yields_next.mpr h.clearDev
  | boundary => exact transferInv_boundary hI h hg
  | dispatch => exact transferInv_fireDispatch hI h hstray
  | slaveRx => exact transferInv_fireSlaveRx hI h hg
  | slaveTx => exact transferInv_fireSlaveTx hI h hg
  | stopDetect => exact transferInv_fireStopDetect hI h
  | sdaEdge => exact transferInv_fireSdaEdge hI h
  | unexpected => exact yields_next.mpr h.congr

end

end Sys2Proof.Machine
end

section
/-!
SUPPORT. What the commands that fill the transmit buffer change (42_master_tx.md R160 to R162).
-/

namespace Sys2Proof.Machine

/-- What filling the transmit buffer may change: the cells from `lo` on and before `hi`, of which none is emptied, the
length and `ovf` (42 R160 to R162). -/
structure FillsTx (lo hi : Nat) (s t : State) : Prop where
  eq : ∃ m n o, t = { s with tc.buf.txbuf := m, tc.buf.txlen := n, tc.xfer.ovf := o }
  cells : SameCellsBut lo hi s.tc.buf.txbuf t.tc.buf.txbuf
  written : ∀ i, (s.tc.buf.txbuf.read i).isSome = true → (t.tc.buf.txbuf.read i).isSome = true

theorem FillsTx.refl (lo hi : Nat) (s : State) : FillsTx lo hi s s := ⟨⟨_, _, _, rfl⟩, fun _ _ => rfl, fun _ h => h⟩

theorem FillsTx.trans {lo hi lo' hi' : Nat} {s t u : State} (h : FillsTx lo hi s t) (h' : FillsTx lo' hi' t u)
    (hlo : lo ≤ lo') (hhi : hi' ≤ hi) : FillsTx lo hi s u := by
  refine ⟨?_, fun i hi => (h'.cells i (by omega)).trans (h.cells i hi), fun i hi => h'.written i (h.written i hi)⟩
  obtain ⟨m, n, o, rfl⟩ := h.eq
  obtain ⟨m', n', o', rfl⟩ := h'.eq
  exact ⟨m', n', o', rfl⟩

/-- The address byte goes to cell 0 (42 R160). -/
theorem beginWrite_fills (b : Byte) (s : State) :
    FillsTx 0 1 s { s with tc.buf.txbuf := s.tc.buf.txbuf.write 0 b, tc.buf.txlen := 1, tc.xfer.ovf := false } :=
  ⟨⟨_, _, _, rfl⟩, fun i hi => read_write_other _ _ _ _ (by omega), fun i => write_keeps_some _ _ _ _⟩

/-- One byte goes to the cell at `txlen`, or is dropped (42 R161). -/
theorem appendOrDrop_fills (b : Byte) (c : Nat) (s : State) :
    FillsTx s.tc.buf.txlen (s.tc.buf.txlen + 1) s (appendOrDrop b c s).2 ∧
      s.tc.buf.txlen ≤ (appendOrDrop b c s).2.tc.buf.txlen ∧
      (appendOrDrop b c s).2.tc.buf.txlen ≤ s.tc.buf.txlen + 1 := by
  unfold appendOrDrop
  split
  · exact ⟨⟨⟨_, _, _, rfl⟩, fun i hi => read_write_other _ _ _ _ (by omega), fun i => write_keeps_some _ _ _ _⟩,
      by simp, by simp⟩
  · exact ⟨⟨⟨_, _, _, rfl⟩, fun _ _ => rfl, fun _ h => h⟩, le_rfl, Nat.le_succ _⟩

/-- The bytes go to the cells from `txlen` on, as many as there is room for (42 R162). -/
theorem appendAll_fills (bs : List Byte) (c : Nat) (s : State) :
    FillsTx s.tc.buf.txlen (s.tc.buf.txlen + bs.length) s (appendAll bs c s).2 := by
  induction bs generalizing c s with
  | nil => exact .refl _ _ s
  | cons b bs ih =>
    obtain ⟨hone, hlo, hhi⟩ := appendOrDrop_fills b c s
    have hrest := ih (appendOrDrop b c s).1 (appendOrDrop b c s).2
    have hone' : FillsTx s.tc.buf.txlen (s.tc.buf.txlen + (b :: bs).length) s (appendOrDrop b c s).2 :=
      ⟨hone.eq, fun i hi => hone.cells i (by simp at hi; omega), hone.written⟩
    exact hone'.trans hrest hlo (by simp; omega)

end Sys2Proof.Machine
end

section
/-!
SUPPORT. The moves of the bus keep the transfer invariant: LINK, the DMA agent, power-on reset and the rules.
-/

namespace Sys2Proof.Machine

section
variable {p : Params} {s : State}

/-- The DMA channel takes a received byte (44 R221, item 3). -/
theorem phaseInv_takeByte {x : XferRegs} {b : BufRegs} {d : DmaRegs} {ev ev' : Option DmaEv} {m : Memory} {r : Bool}
    (h : PhaseInv x .rx b d ev) (hph : x.dmaPhase = .bulk) (hle : d.next ≤ d.last)
    (hev : ev' = some .done → d.last < d.next + 1) :
    PhaseInv x .rx { b with rxbuf := m, rxlen := b.rxlen + 1 }
      { d with next := d.next + 1, pending := false, ready := r } ev' := by
  obtain ⟨hnext, -, hlast⟩ := h.rxBulk hph rfl
  exact { h with
    addrPhase := fun hst => absurd hst (h.bulkStatus (.inl hph))
    receiveCount := fun _ hoff => by simp [hph] at hoff
    dmaEvent := fun _ => hph
    dmaDone := hev
    rxAddr := fun ha => by simp [hph] at ha
    rxBulk := fun _ _ => ⟨by simp [hnext], by simp; omega, hlast⟩
    rxLast := fun hl => by simp [hph] at hl }

theorem transferInv_dmaTakeByte {v : Byte} (hI : TcInv p s.tc) (h : TransferInv s.tc) (hr : routesRc s = true) :
    Yields (fun t => TransferInv t.tc) (dmaTakeByte v s) := by
  simp only [routesRc, Bool.and_eq_true, beq_iff_eq] at hr
  obtain ⟨⟨hen, hdir⟩, hpend⟩ := hr
  have hph := h.dmaEnabled hen
  have hopen : s.tc.xfer.dmaPhase ≠ .off := by simp [hph]
  have hk := (h.dir_rx_iff hopen).mp hdir
  obtain ⟨-, hle⟩ := h.dmaPending hpend
  obtain ⟨hnext, -, hlast⟩ := h.rxBulk hph hk
  obtain ⟨hs, -, -, -, hp⟩ := transferInv_iff.mp h
  rw [hk] at hp
  have hrec : ReceiveInv s.tc.cfg.mode
      { s.tc.buf with rxbuf := s.tc.buf.rxbuf.write s.tc.dma.next v, rxlen := s.tc.buf.rxlen + 1 } :=
    ⟨fun _ => by simp; omega, by rw [hnext]; exact cellsBelow_append _ _ _ h.rxWritten⟩
  have taken {ev : Option DmaEv} {r : Bool} (hev : ev = some .done → s.tc.dma.last < s.tc.dma.next + 1) :
      TransferInv { s.tc with
        buf := { s.tc.buf with rxbuf := s.tc.buf.rxbuf.write s.tc.dma.next v, rxlen := s.tc.buf.rxlen + 1 }
        dma := { s.tc.dma with next := s.tc.dma.next + 1, pending := false, ready := r }
        port := { s.tc.port with dev := ev } } :=
    transferInv_iff.mpr ⟨hs, hrec, hI.awaitInv_of_active (h.phaseActive hopen), ⟨by simp, by simp [hdir]⟩,
      hk ▸ phaseInv_takeByte hp hph hle hev⟩
  unfold dmaTakeByte
  simp only [yields_ite, yields_next, yields_fault, yields_refused, implies_true, true_and]
  exact fun _ _ => ⟨fun hdone _ => taken fun _ => hdone,
    fun _ => taken fun hd => Nat.lt_succ_of_lt (h.dmaDone hd)⟩

theorem transferInv_deliver (ev : LinkEv) (hI : TcInv p s.tc) (h : TransferInv s.tc) :
    Yields (fun t => TransferInv t.tc) (deliver ev s) :=
  yields_deliver (fun _ _ => h.congr) (fun _ => h.congr) fun hr l _ =>
    transferInv_dmaTakeByte (p := p) (s := { s with tc.link := l }) hI.congr h.congr hr

/-- The DMA agent has a step: the transfer is in its Bulk phase (44 R221). -/
theorem TransferInv.bulk_of_agent (h : TransferInv s.tc) (hd : (canTxElement s || canRxIssue s) = true) :
    s.tc.xfer.dmaPhase = .bulk := by
  refine h.dmaEnabled ?_
  simp only [canTxElement, canRxIssue, Bool.or_eq_true, Bool.and_eq_true] at hd
  tauto

theorem transferInv_txElement (h : TransferInv s.tc) : Yields (fun t => TransferInv t.tc) (dmaAgent .txElement s) := by
  simp only [dmaAgent, yields_ite, yields_next, yields_refused, yields_readTx, Bool.not_eq_true', Bool.not_eq_false]
  refine ⟨fun _ => trivial, fun hg => ⟨fun _ => trivial, fun hfull b _ => ?_⟩⟩
  have hph := h.bulk_of_agent (by simp [hg])
  simp only [canTxElement, Bool.and_eq_true, beq_iff_eq, decide_eq_true_eq] at hg
  obtain ⟨⟨⟨hen, hdir⟩, -⟩, hle⟩ := hg
  have hk : s.tc.cmd.kind = .tx := (h.dmaDir (by simp [hph])).mp hdir
  have sent {ev : Option DmaEv} (hev : ev = some .done → s.tc.dma.last < s.tc.dma.next + 1) :
      TransferInv { s.tc with
        dma := { s.tc.dma with next := s.tc.dma.next + 1, ready := false }
        port := { s.tc.port with dev := ev } } :=
    { h with
      dmaPending := fun hp => by simp [(h.dmaPending hp).1] at hdir
      dmaTxCells := fun hd i hi => h.dmaTxCells hd i (by simp at hi; omega)
      dmaEvent := fun _ => hph
      dmaDone := hev
      rxAddr := fun _ hr => by simp [hk] at hr
      rxBulk := fun _ hr => by simp [hk] at hr }
  split_ifs with hdone
  · exact (sent (ev := some .done) fun _ => by simpa using hdone).congr
  · exact (sent (ev := s.tc.port.dev) fun hd => Nat.lt_succ_of_lt (h.dmaDone hd)).congr

theorem transferInv_dmaAgent (d : DmaStep) (h : TransferInv s.tc) :
    Yields (fun t => TransferInv t.tc) (dmaAgent d s) := by
  cases d with
  | txElement => exact transferInv_txElement h
  | rxIssue =>
    simp only [dmaAgent, yields_ite, yields_next, yields_refused, Bool.not_eq_true', Bool.not_eq_false]
    refine ⟨fun _ => trivial, fun hg => ?_⟩
    simp only [canRxIssue, Bool.and_eq_true, beq_iff_eq, decide_eq_true_eq] at hg
    obtain ⟨⟨⟨⟨-, hdir⟩, -⟩, -⟩, hle⟩ := hg
    exact { h with dmaPending := fun _ => ⟨hdir, hle⟩ }
  | error =>
    simp only [dmaAgent, yields_ite, yields_next, yields_refused, Bool.not_eq_true', Bool.not_eq_false]
    refine ⟨fun _ => trivial, fun hg => ⟨fun _ => trivial, fun _ => ?_⟩⟩
    exact { h with
      dmaEnabled := fun he => by cases he
      dmaEvent := fun _ => h.bulk_of_agent hg
      dmaDone := fun hd => by cases hd }

theorem transferInv_reset (base : Nat) : TransferInv (Tc.reset p base) := by
  refine transferInv_of_rest rfl rfl rfl rfl rfl ?_ ?_ ?_ ?_
  · exact ⟨by simp [Tc.reset], by simp [Tc.reset], by simp [Tc.reset, statusSlaveActive]⟩
  · exact ⟨by simp [Tc.reset], by simp [Tc.reset, CellsBelow]⟩
  · exact awaitInv_of_not (by simp [Tc.reset]) rfl
  · exact ⟨by simp [Tc.reset], fun _ i hi hl => by simp [Tc.reset] at hi hl; omega⟩

theorem transferInv_busMove (m : BusMove) (hI : TcInv p s.tc) (h : TransferInv s.tc)
    (hstray : s.tc.cfg.mode = .master → ¬AddressWaits s.tc) : Yields (fun t => TransferInv t.tc) (busMove m s) := by
  cases m with
  | rule r => exact yields_stepRule.mpr fun hg => transferInv_fireRule r hI h hstray hg
  | deliver ev => exact transferInv_deliver ev hI h
  | dma d => exact transferInv_dmaAgent d h
  | sdaRise =>
    simp only [busMove, sdaRise, yields_ite, yields_next, yields_refused]
    exact ⟨fun _ => h.congr, fun _ => trivial⟩
  | powerOn => exact yields_next.mpr { transferInv_reset (p := s.par) s.tc.base with }
  | linkBusy b => exact yields_next.mpr h.congr
  | linkArbl b => exact yields_next.mpr h.congr
  | dmaAvailable b => exact yields_next.mpr h.congr
  | sda b => exact yields_next.mpr h.congr
  | scl b => exact yields_next.mpr h.congr

end

end Sys2Proof.Machine
end

section
/-!
SUPPORT. Every command, and with it every step of a TC, keeps the transfer invariant.
-/

namespace Sys2Proof.Machine

section
variable {p : Params} {s : State}

/-! ### Commands -/

/-- A command that is accepted with no master transfer active finds the TC at rest; filling the transmit buffer leaves
it so. -/
theorem FillsTx.transferInv {lo hi : Nat} {t : State} (hf : FillsTx lo hi s t) (hI : TcInv p s.tc)
    (h : TransferInv s.tc) (hbusy : s.tc.cmd.busy = false) (hst : masterActive s = false) : TransferInv t.tc := by
  obtain ⟨hph, htf, hen, hdev⟩ := h.at_rest hst
  obtain ⟨hs, hr, -, hc, -⟩ := transferInv_iff.mp h
  have hcells := hf.written
  obtain ⟨m, n, o, rfl⟩ := hf.eq
  exact transferInv_of_rest hst hph htf hen hdev hs { hr with } (hI.awaitInv_of_free hbusy)
    ⟨hc.dmaPending, fun hd i hi hl => hcells i (hc.dmaTxCells hd i hi hl)⟩

/-- DMA is selected only from its least length on (41 R143). -/
theorem dmaMin_le_of_resolveEff {k : Kind} {len : Nat} (h : (resolveEff k len s).1 = .dma) : dmaMin k s ≤ len := by
  unfold resolveEff at h
  simp only [] at h
  split at h
  · cases h
  · next hn => exact not_lt.mp fun hlt => hn ⟨h, hlt⟩

theorem transferInv_startTransfer {k : Kind} {len : Nat} {b : Bool} {w : Word} (h : TransferInv s.tc)
    (hst : masterActive s = false) (htx : k = .tx → 0 < len ∧ s.tc.buf.txlen = len)
    (hrx : k = .rx → 0 < len ∧ s.tc.buf.rxlen = 0 ∧ s.tc.buf.rxreq.toNat = len) :
    TransferInv (startTransfer k len b w s).tc := by
  obtain ⟨hph, -, hen, hdev⟩ := h.at_rest hst
  obtain ⟨hs, hr, -, hc, -⟩ := transferInv_iff.mp h
  have hmin : (resolveEff k len s).1 = .dma → dmaMin k s ≤ len := dmaMin_le_of_resolveEff
  refine transferInv_of_rest hst hph rfl hen hdev hs hr ⟨fun _ (hk : k = .tx) => ?_, fun _ (hk : k = .rx) => ?_⟩ hc
  · obtain ⟨hpos, hlen⟩ := htx hk
    subst hk
    simp only [dmaMin, sup_le_iff] at hmin
    exact ⟨hlen ▸ hpos, fun he => hlen ▸ (hmin he).2⟩
  · obtain ⟨hpos, hrxlen, hlen⟩ := hrx hk
    subst hk
    simp only [dmaMin, sup_le_iff] at hmin
    exact ⟨hrxlen, hlen ▸ hpos, fun he => hlen ▸ (hmin he).2⟩

theorem masterActive_of_startRejects (hg : startRejects s = false) : masterActive s = false :=
  (Bool.or_eq_false_iff.mp hg).2

theorem transferInv_startTx {stop b : Bool} {w : Word} (h : TransferInv s.tc) (hst : masterActive s = false) :
    TransferInv (startTx stop b w s).tc := by
  unfold startTx
  split
  · exact h.congr
  · next hne =>
    exact transferInv_startTransfer (s := { s with tc.xfer.stopReq := stop }) h.congr hst
      (fun _ => ⟨Nat.pos_of_ne_zero hne, rfl⟩) (by simp)

/-- A new status that is at an end, or new receive registers with nothing received, leave the TC at rest. -/
theorem transferInv_startRx {stop b : Bool} {w : Word} (hI : TcInv p s.tc) (h : TransferInv s.tc)
    (hbusy : s.tc.cmd.busy = false) (hst : masterActive s = false) : TransferInv (startRx stop b w s).tc := by
  obtain ⟨hph, htf, hen, hdev⟩ := h.at_rest hst
  obtain ⟨hs, hr, -, hc, -⟩ := transferInv_iff.mp h
  have ha {b : BufRegs} : AwaitInv s.tc.cmd.op s.tc.rcv.internal s.tc.cmd.kind s.tc.xfer.eff b :=
    hI.awaitInv_of_free hbusy
  unfold startRx
  simp only []
  split_ifs with hzero
  · exact h.congr
  · exact transferInv_of_rest rfl hph htf hen hdev { hs with slavePhase := fun hf => by cases hf } hr ha hc
  · have hpos : 0 < s.tc.cmd.arg1.toNat := by
      simp only [BitVec.toNat_eq] at hzero
      exact Nat.pos_of_ne_zero hzero
    have hempty : ReceiveInv s.tc.cfg.mode { s.tc.buf with rxreq := s.tc.cmd.arg1, rxlen := 0, rxidx := 0 } :=
      ⟨fun _ => Nat.zero_le _, by simp [CellsBelow]⟩
    exact transferInv_startTransfer (s := { s with
      tc.xfer := { s.tc.xfer with ovf := false, rxTarget := argTarget s, stopReq := stop }
      tc.buf := { s.tc.buf with rxreq := s.tc.cmd.arg1, rxlen := 0, rxidx := 0 } })
      (transferInv_of_rest hst hph htf hen hdev hs hempty ha hc) hst (by simp) (fun _ => ⟨hpos, rfl, rfl⟩)

theorem transferInv_configureApply {st : Strategy} (hI : TcInv p s.tc) (h : TransferInv s.tc)
    (hbusy : s.tc.cmd.busy = false) (hst : masterActive s = false) : TransferInv (configureApply st s).tc := by
  have ho := hI.busyOp.mp hbusy
  have hi := hI.internal_false (by simp [ho])
  obtain ⟨-, -, hen, hdev⟩ := h.at_rest hst
  obtain ⟨-, -, -, hc, -⟩ := transferInv_iff.mp h
  have ha {k : Kind} {eff : Strategy} {b : BufRegs} : AwaitInv .none false k eff b := awaitInv_of_not (by simp) rfl
  apply transferInv_of_rest <;>
    simp only [configureApply, beginContext, setResult_cfg, setResult_xfer, setResult_buf, setResult_op, setResult_kind,
      setResult_slave, setResult_rcv, setResult_port, setResult_dma, emit_cmd, emit_rcv, emit_slave, emit_buf,
      emit_port, emit_dma, hen, hdev, ho, hi]
  · rfl
  · exact ⟨by simp, by simp, fun hf => by cases hf⟩
  · exact ⟨fun _ => Nat.zero_le _, by simp [CellsBelow]⟩
  · exact ha
  · exact hc

theorem transferInv_exec (i : Instr) (hI : TcInv p s.tc) (h : TransferInv s.tc) :
    Yields (fun t => TransferInv t.tc) (exec i s) := by
  have accepted {g : Bool} {body : State → State}
      (hb : s.tc.cmd.busy = false → g = false → TransferInv (body s).tc) :
      Yields (fun t => TransferInv t.tc) (gated g body s) := yields_gated h.congr hb
  cases i with
  | configure =>
    simp only [exec, execConfigure]
    refine accepted fun hbusy hst => ?_
    split
    · exact h.congr
    · split
      · exact h.congr
      · exact transferInv_configureApply hI h hbusy hst
  | setStrategy =>
    simp only [exec, execSetStrategy]
    refine accepted fun _ _ => ?_
    split
    · exact h.congr
    · split <;> exact h.congr
  | setRate =>
    simp only [exec, execSetRate]
    refine accepted fun _ _ => ?_
    split <;> exact h.congr
  | beginWrite =>
    simp only [exec, execBeginWrite]
    refine accepted fun hbusy hg => ?_
    have hst := (Bool.or_eq_false_iff.mp hg).2
    exact { (beginWrite_fills (addressByte (argTarget s) false) s).transferInv hI h hbusy hst with }
  | writeByte =>
    simp only [exec, execWriteByte]
    refine accepted fun hbusy hst => ?_
    split
    · exact h.congr
    · exact ((appendOrDrop_fills (argByte s) 0 s).1.transferInv hI h hbusy hst).congr
  | writeBytes n =>
    simp only [exec, execWriteBytes]
    refine accepted fun hbusy hst => ?_
    split
    · exact h.congr
    · exact ((appendAll_fills (argBytes s.tc.cmd.arg0 n) 0 s).transferInv hI h hbusy hst).congr
  | endWrite stop d => exact accepted fun _ hg => transferInv_startTx h (masterActive_of_startRejects hg)
  | sendWrite stop => exact accepted fun _ hg => transferInv_startTx h (masterActive_of_startRejects hg)
  | read stop d => exact accepted fun hbusy hg => transferInv_startRx hI h hbusy (masterActive_of_startRejects hg)
  | sendRead stop => exact accepted fun hbusy hg => transferInv_startRx hI h hbusy (masterActive_of_startRejects hg)
  | await d =>
    simp only [exec, execAwait]
    refine accepted fun hbusy _ => ?_
    have hi := hI.internal_false (by simp [hI.busyOp.mp hbusy])
    split
    · exact h.congr
    · obtain ⟨hs, hr, -, hc, hp⟩ := transferInv_iff.mp h
      exact transferInv_iff.mpr ⟨hs, hr, awaitInv_of_not (by simp) hi, hc, { hp with }⟩
  | slaveRelease =>
    have hfree : TransferInv { s.tc with slave := { s.tc.slave with hold := .none } } :=
      { h with holdSlave := fun hne => absurd rfl hne }
    simp only [exec, execSlaveRelease]
    split
    · exact yields_sendOrZero.mpr ⟨fun _ _ _ => hfree.congr, fun _ => hfree.congr⟩
    · exact yields_next.mpr hfree
    · exact yields_next.mpr h
  | resetBus =>
    simp only [exec, execResetBus]
    refine accepted fun _ _ => ?_
    obtain ⟨hs, hr, -, hc, hp⟩ := transferInv_iff.mp h
    have ha : AwaitInv .recover false s.tc.cmd.kind s.tc.xfer.eff s.tc.buf := awaitInv_of_not (by simp) rfl
    simpa [transferInv_iff, startRecovery_rcv] using ⟨hs, hr, ha, hc, hp⟩
  | resetErrcnt =>
    simp only [exec, execResetErrcnt]
    split
    · exact yields_next.mpr h.congr
    · exact yields_next.mpr h
  | eoi => exact yields_next.mpr h.congr

/-- Every step of a TC in which no address match waits in master mode keeps the transfer invariant. -/
theorem FocusStep.keeps_transferInv {t : State} (hf : FocusStep s t) (hI : TcInv p s.tc) (h : TransferInv s.tc)
    (hstray : s.tc.cfg.mode = .master → ¬AddressWaits s.tc) : TransferInv t.tc := by
  cases hf with
  | bus m ht => exact transferInv_busMove m hI h hstray t ht
  | command i ht => exact transferInv_exec i hI h t ht
  | access hf =>
    exact h.congr hf.mode (by simp [hf.xfer]) (by rw [hf.buf]; simp) ⟨hf.kind, hf.op⟩ (by rw [hf.rcv])
      (by simp [hf.slave]) (by simp [hf.dma]) (by rw [hf.port])

end

end Sys2Proof.Machine
end

section
/-!
SUPPORT. What a rule leaves alone in its own TC: the configuration, the event in `lev` but to consume it, and the error
counters but to count up (10_state.md R31).
-/

namespace Sys2Proof.Machine

/-! ### Counters -/

theorem le_satInc (c : Word) : c ≤ satInc c := by
  unfold satInc
  split
  · exact BitVec.le_refl c
  · next hne =>
    rw [BitVec.le_def, BitVec.toNat_add]
    have hlt := c.isLt
    have : c.toNat ≠ 4294967295 := fun h => hne (BitVec.eq_of_toNat_eq h)
    simp
    omega

@[simp] theorem countersGrow_refl (e : ErrCnt) : CountersGrow e e := fun _ => BitVec.le_refl _

@[simp] theorem countersGrow_satInc (k : ErrCat) (e : ErrCnt) : CountersGrow e (errSet k (satInc (errGet k e)) e) := by
  intro j
  by_cases hj : j = k
  · subst hj; simp [le_satInc]
  · rw [errGet_errSet_other k j _ _ hj]
    exact BitVec.le_refl _

/-! ### Rules -/

/-- What a rule leaves alone in its own TC. -/
structure RuleFrame (s t : State) : Prop where
  cfg : t.tc.cfg = s.tc.cfg
  lev : t.tc.port.lev = none ∨ t.tc.port.lev = s.tc.port.lev
  counters : CountersGrow s.tc.err t.tc.err

section
variable {s t : State}

@[simp] theorem ruleFrame_iff :
    RuleFrame s t ↔ t.tc.cfg = s.tc.cfg ∧ (t.tc.port.lev = none ∨ t.tc.port.lev = s.tc.port.lev) ∧
      CountersGrow s.tc.err t.tc.err :=
  ⟨fun ⟨h1, h2, h3⟩ => ⟨h1, h2, h3⟩, fun ⟨h1, h2, h3⟩ => ⟨h1, h2, h3⟩⟩

@[simp] theorem dmaShutdown_lev (s : State) : (dmaShutdown s).tc.port.lev = s.tc.port.lev := by
  unfold dmaShutdown
  split <;> simp

@[simp] theorem endArbLost_lev (s : State) : (endArbLost s).tc.port.lev = s.tc.port.lev := by simp [endArbLost]

@[simp] theorem endArbLost_err (s : State) :
    (endArbLost s).tc.err = errSet .arbLost (satInc (errGet .arbLost s.tc.err)) s.tc.err := by simp [endArbLost]

@[simp] theorem endWithStop_lev (st : Status) (s : State) : (endWithStop st s).tc.port.lev = s.tc.port.lev := by
  simp [endWithStop]

@[simp] theorem endSuccess_lev (ev : HostEv) (s : State) : (endSuccess ev s).tc.port.lev = s.tc.port.lev := by
  unfold endSuccess
  simp only []
  split <;> split <;> simp

theorem ruleFrame_launch (h : RuleFrame s t) : Yields (RuleFrame s) (launch t) := by
  unfold launch
  rw [yields_mapNext]
  split
  · simp only [txLaunch, yields_readTx, yields_next]
    intro b _
    unfold afterLaunch
    split_ifs <;> simpa [dmaTxSetup] using h
  · simp only [rxLaunch, yields_next]
    unfold afterLaunch
    split_ifs <;> simpa [dmaRxSetup] using h

theorem ruleFrame_endRecovery (s : State) : RuleFrame s (endRecovery s) := by
  unfold endRecovery
  simp only []
  split <;> simp [recoveryCleanup]

theorem ruleFrame_fireRule (r : Rule) (s : State) : Yields (RuleFrame s) (fireRule r s) := by
  cases r with
  | acquire =>
    simp only [fireRule, fireAcquire, acqFail, acqGiveUp]
    split_ifs
    · exact ruleFrame_launch (by simp)
    · exact ruleFrame_launch (by simp)
    · simp
    · simp
  | recover =>
    simp only [fireRule, fireRecover]
    split
    · rw [yields_ite]
      exact ⟨fun _ => yields_next.mpr (ruleFrame_endRecovery s), fun _ => by simp⟩
    · simp
    · simp
    · simp
  | timeout => simp [fireRule, fireTimeout]
  | txDone =>
    simp only [fireRule, fireTxDone, txCompletion, txTimeoutEnd, txNak, txNext, txLast]
    split
    · split_ifs <;> simp [dmaTxEnterBulk]
    · simp
  | addrDone =>
    simp only [fireRule, fireAddrDone, addrNaked, addrAcked]
    split
    · split_ifs <;> simp [issueRecv, dmaRxEnterBulk]
    · simp
  | rxByte =>
    simp only [fireRule, fireRxByte]
    split
    · simp [issueRecv]
    · simp
  | rxFinal =>
    simp only [fireRule, fireRxFinal]
    split
    · simp
    · simp
  | bulkError => simp [fireRule, fireBulkError]
  | dmaDone =>
    simp only [fireRule, fireDmaDone]
    split <;> simp
  | dmaError => simp [fireRule, fireDmaError]
  | dmaStale => simp [fireRule, fireDmaStale]
  | boundary => simp [fireRule, fireBoundary]
  | dispatch =>
    simp only [fireRule, fireDispatch, slaveSetup, slaveTxSetup, slaveRxSetup]
    split
    · split_ifs <;> simp
    · simp
  | slaveRx =>
    simp only [fireRule, fireSlaveRx]
    split <;> simp
  | slaveTx =>
    simp only [fireRule, fireSlaveTx]
    split <;> simp
  | stopDetect => simp [fireRule, fireStopDetect, slaveRxEnd]
  | sdaEdge => simp [fireRule, fireSdaEdge, slaveRxEnd]
  | unexpected => simp [fireRule, fireUnexpected]

end

end Sys2Proof.Machine
end

section
/-!
SUPPORT. What no command changes (10_state.md R31, 30_encoding.md R92, R100).
-/

namespace Sys2Proof.Machine

/-- The cells of the transmit buffer a command may store, from the first to before the second (42 R160 to R162). -/
def storedCells (i : Instr) (s : State) : Nat × Nat :=
  match i with
  | .beginWrite => (0, 1)
  | .writeByte => (s.tc.buf.txlen, s.tc.buf.txlen + 1)
  | .writeBytes n => (s.tc.buf.txlen, s.tc.buf.txlen + n)
  | _ => (0, 0)

/-- What the command `i` leaves alone in its own TC. -/
structure CommandFrame (i : Instr) (s t : State) : Prop where
  port : t.tc.port = s.tc.port
  dma : t.tc.dma = s.tc.dma
  irqPend : t.tc.ev.irqPend = s.tc.ev.irqPend
  irqEn : t.tc.cfg.irqEn = s.tc.cfg.irqEn
  timeoutDefault : t.tc.cfg.timeoutDefault = s.tc.cfg.timeoutDefault
  dmaThresh : t.tc.cfg.dmaThresh = s.tc.cfg.dmaThresh
  args : t.tc.cmd.arg0 = s.tc.cmd.arg0 ∧ t.tc.cmd.arg1 = s.tc.cmd.arg1 ∧ t.tc.cmd.arg2 = s.tc.cmd.arg2
  slave : t.tc.slave.rxaddr = s.tc.slave.rxaddr ∧ t.tc.slave.srxCount = s.tc.slave.srxCount
  rxbuf : t.tc.buf.rxbuf = s.tc.buf.rxbuf
  counters : i ≠ .resetErrcnt → t.tc.err = s.tc.err
  depth : i ≠ .eoi → t.tc.ev.isrDepth = s.tc.ev.isrDepth
  mode : s.tc.port.linkBusy = true → t.tc.cfg.mode = s.tc.cfg.mode
  cells : SameCellsBut (storedCells i s).1 (storedCells i s).2 s.tc.buf.txbuf t.tc.buf.txbuf

@[simp] theorem sameCellsBut_refl (lo hi : Nat) (m : Memory) : SameCellsBut lo hi m m := fun _ _ => rfl

section
variable {i : Instr} {s t : State}

theorem CommandFrame.refl (i : Instr) (s : State) : CommandFrame i s s := by constructor <;> simp

/-- A change of registers no frame speaks of. -/
theorem CommandFrame.congr {u : State} (h : CommandFrame i s t)
    (hport : u.tc.port = t.tc.port := by simp [rejectCmd, configureApply, beginContext])
    (hdma : u.tc.dma = t.tc.dma := by simp [rejectCmd, configureApply, beginContext])
    (hev : u.tc.ev = t.tc.ev := by simp [rejectCmd, configureApply, beginContext])
    (hcfg : u.tc.cfg.irqEn = t.tc.cfg.irqEn ∧ u.tc.cfg.timeoutDefault = t.tc.cfg.timeoutDefault ∧
      u.tc.cfg.dmaThresh = t.tc.cfg.dmaThresh := by
        simp [rejectCmd, configureApply, beginContext, configureFields])
    (hargs : u.tc.cmd.arg0 = t.tc.cmd.arg0 ∧ u.tc.cmd.arg1 = t.tc.cmd.arg1 ∧ u.tc.cmd.arg2 = t.tc.cmd.arg2 := by
        simp [rejectCmd, configureApply, beginContext, setResult])
    (hslave : u.tc.slave.rxaddr = t.tc.slave.rxaddr ∧ u.tc.slave.srxCount = t.tc.slave.srxCount := by
        simp [rejectCmd, configureApply, beginContext])
    (hbuf : u.tc.buf.rxbuf = t.tc.buf.rxbuf ∧ u.tc.buf.txbuf = t.tc.buf.txbuf := by
        simp [rejectCmd, configureApply, beginContext])
    (herr : u.tc.err = t.tc.err := by simp [rejectCmd, configureApply, beginContext])
    (hmode : s.tc.port.linkBusy = true → u.tc.cfg.mode = t.tc.cfg.mode := by simp [rejectCmd]) :
    CommandFrame i s u where
  port := hport.trans h.port
  dma := hdma.trans h.dma
  irqPend := (congrArg EvRegs.irqPend hev).trans h.irqPend
  irqEn := hcfg.1.trans h.irqEn
  timeoutDefault := hcfg.2.1.trans h.timeoutDefault
  dmaThresh := hcfg.2.2.trans h.dmaThresh
  args := ⟨hargs.1.trans h.args.1, hargs.2.1.trans h.args.2.1, hargs.2.2.trans h.args.2.2⟩
  slave := ⟨hslave.1.trans h.slave.1, hslave.2.trans h.slave.2⟩
  rxbuf := hbuf.1.trans h.rxbuf
  counters := fun hi => herr.trans (h.counters hi)
  depth := fun hi => (congrArg EvRegs.isrDepth hev).trans (h.depth hi)
  mode := fun hb => (hmode hb).trans (h.mode hb)
  cells := by rw [hbuf.2]; exact h.cells

/-- Filling the transmit buffer changes the cells the command stores, and no register a frame speaks of. -/
theorem FillsTx.commandFrame (hf : FillsTx (storedCells i s).1 (storedCells i s).2 s t) : CommandFrame i s t := by
  have hcells := hf.cells
  obtain ⟨m, n, o, rfl⟩ := hf.eq
  exact { CommandFrame.refl i s with cells := hcells }

theorem commandFrame_startTx {stop b : Bool} {w : Word} : CommandFrame i s (startTx stop b w s) := by
  unfold startTx
  split
  · exact (CommandFrame.refl i s).congr
  · exact (CommandFrame.refl i s).congr (hcfg := ⟨rfl, rfl, rfl⟩) (hmode := fun _ => rfl) (hargs := ⟨rfl, rfl, rfl⟩)

theorem commandFrame_startRx {stop b : Bool} {w : Word} : CommandFrame i s (startRx stop b w s) := by
  unfold startRx
  simp only []
  split_ifs
  · exact (CommandFrame.refl i s).congr
  · exact (CommandFrame.refl i s).congr
  · exact (CommandFrame.refl i s).congr (hcfg := ⟨rfl, rfl, rfl⟩) (hmode := fun _ => rfl) (hargs := ⟨rfl, rfl, rfl⟩)

@[simp] theorem length_argBytes (w : Word) (n : Nat) : (argBytes w n).length = n := by simp [argBytes]

theorem commandFrame_exec (i : Instr) (s : State) : Yields (CommandFrame i s) (exec i s) := by
  have same := CommandFrame.refl i s
  have accepted {g : Bool} {body : State → State} (hb : CommandFrame i s (body s)) :
      Yields (CommandFrame i s) (gated g body s) :=
    yields_gated (same.congr (hargs := ⟨rfl, rfl, rfl⟩)) fun _ _ => hb
  cases i with
  | configure =>
    simp only [exec, execConfigure]
    refine accepted ?_
    split
    · exact same.congr
    · next hfree =>
      split
      · exact same.congr
      · exact same.congr (hmode := fun hb => absurd hb hfree)
  | setStrategy =>
    simp only [exec, execSetStrategy]
    refine accepted ?_
    split
    · exact same.congr
    · split <;> exact same.congr
  | setRate =>
    simp only [exec, execSetRate]
    refine accepted ?_
    split <;> exact same.congr
  | beginWrite =>
    have hf := (beginWrite_fills (addressByte (argTarget s) false) s).commandFrame (i := .beginWrite)
    exact accepted { hf with }
  | writeByte =>
    have hf := (appendOrDrop_fills (argByte s) 0 s).1.commandFrame (i := .writeByte)
    simp only [exec, execWriteByte]
    refine accepted ?_
    split
    · exact same.congr
    · exact hf.congr
  | writeBytes n =>
    have hfill := appendAll_fills (argBytes s.tc.cmd.arg0 n) 0 s
    rw [length_argBytes] at hfill
    have hf := hfill.commandFrame (i := .writeBytes n)
    simp only [exec, execWriteBytes]
    refine accepted ?_
    split
    · exact same.congr
    · exact hf.congr
  | endWrite stop d => exact accepted commandFrame_startTx
  | sendWrite stop => exact accepted commandFrame_startTx
  | read stop d => exact accepted commandFrame_startRx
  | sendRead stop => exact accepted commandFrame_startRx
  | await d =>
    simp only [exec, execAwait]
    refine accepted ?_
    split <;> exact same.congr
  | slaveRelease =>
    simp only [exec, execSlaveRelease]
    split
    · exact yields_sendOrZero.mpr ⟨fun _ _ _ => same.congr, fun _ => same.congr⟩
    · exact yields_next.mpr same.congr
    · exact yields_next.mpr same
  | resetBus =>
    simp only [exec, execResetBus]
    exact accepted same.congr
  | resetErrcnt =>
    simp only [exec, execResetErrcnt]
    split
    · exact yields_next.mpr { same with counters := fun hne => absurd rfl hne }
    · exact yields_next.mpr same
  | eoi => exact yields_next.mpr { same with depth := fun hne => absurd rfl hne }

end

end Sys2Proof.Machine
end

section
open Sys2Proof.Machine

/-- Settles O23: a command is made of operations that keep its frame, and the ones that fill the transmit buffer say
which cells they store. -/
theorem commandsFrame : Obligations.CommandsFrame := by
  intro i s t h
  have hf := commandFrame_exec i s t h
  obtain ⟨harg0, harg1, harg2⟩ := hf.args
  obtain ⟨hrxaddr, hsrx⟩ := hf.slave
  have hcells := hf.cells
  refine ⟨keepsOutside_exec i t h, hf.port, hf.dma, hf.irqPend, hf.irqEn, hf.timeoutDefault, hf.dmaThresh, harg0, harg1,
    harg2, hrxaddr, hsrx, fun c => by rw [hf.rxbuf], hf.counters, hf.depth, ?_, ?_, ?_, ?_⟩
  · rintro rfl; exact hcells
  · rintro rfl; exact hcells
  · rintro n rfl; exact hcells
  · intro hb hw hn c
    refine hcells c (.inr ?_)
    cases i with
    | beginWrite => exact absurd rfl hb
    | writeByte => exact absurd rfl hw
    | writeBytes n => exact absurd rfl (hn n)
    | _ => exact Nat.zero_le c
end

section
/-!
SUPPORT. What a move of the bus leaves alone in its own TC: the configuration, the counters but to
count up, and an address match that waits (10_state.md R31, 30_encoding.md R107 (f), (g)).
-/

namespace Sys2Proof.Machine

/-- What a move of the bus other than power-on reset leaves alone. An address match comes only in slave mode. -/
structure BusFrame (s t : State) : Prop where
  cfg : t.tc.cfg = s.tc.cfg
  waits : AddressWaits t.tc → AddressWaits s.tc ∨ s.tc.cfg.mode = .slave
  counters : CountersGrow s.tc.err t.tc.err

section
variable {s t : State}

theorem RuleFrame.busFrame (h : RuleFrame s t) : BusFrame s t := by
  refine ⟨h.cfg, fun ⟨a, rw, hw⟩ => .inl ?_, h.counters⟩
  rcases h.lev with hn | hl
  · simp [hn] at hw
  · exact ⟨a, rw, hl ▸ hw⟩

/-- A move that changes neither the configuration nor the counters nor `lev`. -/
theorem BusFrame.of_eq (hcfg : t.tc.cfg = s.tc.cfg := by simp) (hlev : t.tc.port.lev = s.tc.port.lev := by simp)
    (herr : t.tc.err = s.tc.err := by simp) : BusFrame s t :=
  RuleFrame.busFrame ⟨hcfg, .inr hlev, by rw [herr]; exact countersGrow_refl _⟩

theorem busFrame_deliver (ev : LinkEv) : Yields (BusFrame s) (deliver ev s) := by
  refine yields_deliver (fun hslave l => ⟨rfl, fun ⟨a, rw, hw⟩ => .inr (hslave ?_), countersGrow_refl _⟩)
    (fun _ => .of_eq) fun _ l d => ?_
  · rw [Option.some.inj hw]
    rfl
  · simp only [dmaTakeByte, yields_ite, yields_next, yields_fault, yields_refused, implies_true, true_and]
    exact fun _ _ => ⟨fun _ _ => .of_eq, fun _ => .of_eq⟩

theorem busFrame_dmaAgent (d : DmaStep) : Yields (BusFrame s) (dmaAgent d s) := by
  cases d with
  | txElement =>
    simp only [dmaAgent, yields_ite, yields_next, yields_refused, yields_readTx]
    refine ⟨fun _ => trivial, fun _ => ⟨fun _ => trivial, fun _ b _ => ?_⟩⟩
    split_ifs <;> exact .of_eq
  | rxIssue =>
    simp only [dmaAgent, yields_ite, yields_next, yields_refused]
    exact ⟨fun _ => trivial, fun _ => .of_eq⟩
  | error =>
    simp only [dmaAgent, yields_ite, yields_next, yields_refused]
    exact ⟨fun _ => trivial, fun _ => ⟨fun _ => trivial, fun _ => .of_eq⟩⟩

theorem busFrame_busMove {m : BusMove} (hm : m ≠ .powerOn) : Yields (BusFrame s) (busMove m s) := by
  cases m with
  | rule r => exact yields_stepRule.mpr fun _ t ht => (ruleFrame_fireRule r s t ht).busFrame
  | deliver ev => exact busFrame_deliver ev
  | dma d => exact busFrame_dmaAgent d
  | sdaRise =>
    simp only [busMove, sdaRise, yields_ite, yields_next, yields_refused]
    exact ⟨fun _ => .of_eq, fun _ => trivial⟩
  | powerOn => exact absurd rfl hm
  | linkBusy b => exact yields_next.mpr .of_eq
  | linkArbl b => exact yields_next.mpr .of_eq
  | dmaAvailable b => exact yields_next.mpr .of_eq
  | sda b => exact yields_next.mpr .of_eq
  | scl b => exact yields_next.mpr .of_eq

end

end Sys2Proof.Machine
end

section
open Sys2Proof.Machine

/-- Settles O34: a command but RESET_ERRCNT keeps the counters, a move of the bus but power-on reset only counts up, and
a register access touches none. -/
theorem countersNeverFall : Obligations.CountersNeverFall := by
  refine ⟨fun i s t hi h => ?_, fun m s t hm h => (busFrame_busMove hm t h).counters, fun off size v s t hoff h => ?_⟩
  · rw [(commandFrame_exec i s t h).counters hi]
    exact countersGrow_refl _
  · rcases h with h | h
    · exact (accessFrame_hostRead off size s t h).err
    · rcases hostWrite_cases h with ⟨h0, -⟩ | hf
      · exact absurd h0 hoff
      · exact hf.err
end

section
/-!
SUPPORT. The whole invariant along a step, and at reset (10_state.md R34, 70_reset_boot.md R320).
-/

namespace Sys2Proof.Machine

/-- No address match waits in the TC in master mode (log 15). -/
def NoStrayIn (c : Tc) : Prop := c.cfg.mode = .master → ¬AddressWaits c

/-- While an address match waits in the TC its bus is busy (30 R107 (g), 45 R255). -/
def BusyIn (c : Tc) : Prop := AddressWaits c → c.port.linkBusy = true

section
variable {s t : State}

theorem NoStrayIn.congr {c d : Tc} (h : NoStrayIn c) (hm : d.cfg.mode = c.cfg.mode) (hl : d.port.lev = c.port.lev) :
    NoStrayIn d := fun hd ⟨a, rw, hw⟩ => h (hm ▸ hd) ⟨a, rw, hl ▸ hw⟩

theorem BusFrame.noStrayIn (hf : BusFrame s t) (h : NoStrayIn s.tc) : NoStrayIn t.tc := by
  intro hm hw
  rw [hf.cfg] at hm
  rcases hf.waits hw with hw | hs
  · exact h hm hw
  · simp [hm] at hs

/-- An address match comes in slave mode, and the mode changes only while the bus is free: none comes to wait in master
mode. -/
theorem FocusStep.keeps_noStrayIn (hf : FocusStep s t) (h : NoStrayIn s.tc) (hb : BusyIn s.tc) : NoStrayIn t.tc := by
  cases hf with
  | bus m ht =>
    by_cases hm : m = .powerOn
    · subst hm
      cases ht
      exact fun _ ⟨_, _, hw⟩ => by cases hw
    · exact (busFrame_busMove hm t ht).noStrayIn h
  | command i ht =>
    have hf := commandFrame_exec i s t ht
    rintro hm ⟨a, rw, hw⟩
    rw [hf.port] at hw
    rw [hf.mode (hb ⟨a, rw, hw⟩)] at hm
    exact h hm ⟨a, rw, hw⟩
  | access hf => exact h.congr hf.mode (by rw [hf.port])

theorem noStrayAddress_step (hs : NoStrayAddress s) (hb : BusyWhileAddressed s) (h : step s = .next t) :
    NoStrayAddress t :=
  forall_instances_step (P := fun c => NoStrayIn c ∧ BusyIn c) (Q := NoStrayIn) h (fun c hc => ⟨hs c hc, hb c hc⟩)
    (fun _ hc => hc.1) fun _ _ hc hf => hf.keeps_noStrayIn hc.1 hc.2

theorem transferInv_step (hI : FullInv s) (hs : NoStrayAddress s) (h : step s = .next t) :
    ∀ c ∈ instances t, TransferInv c :=
  forall_instances_step (P := fun c => TcInv s.par c ∧ TransferInv c ∧ NoStrayIn c) h
    (fun c hc => ⟨hI.machine.each c hc, hI.transfer c hc, hs c hc⟩) (fun _ hc => hc.2.1)
    fun _ _ ⟨hc, ht, hn⟩ hf => hf.keeps_transferInv hc ht hn

theorem forall_instances_reset {P : Tc → Prop} (h : ∀ base, P (Tc.reset Config.params base)) :
    ∀ c ∈ instances State.reset, P c := by
  intro c hc
  simp only [instances, State.reset, State.resetWith, List.nil_append, List.mem_cons, List.mem_map] at hc
  rcases hc with rfl | ⟨base, -, rfl⟩
  · exact h _
  · exact h _

end

end Sys2Proof.Machine
end

section
open Sys2Proof Sys2Proof.Machine

/-- Settles O58: a step acts on one TC and keeps its transfer invariant; an address match comes to wait in slave mode
only, and no command leaves slave mode while the bus is busy. -/
theorem fullInvKept : Obligations.FullInvKept := fun _ _ hI hs h =>
  ⟨⟨machineInv_step hI.machine h, transferInv_step hI hs h⟩, fun hb => noStrayAddress_step hs hb h⟩

/-- Settles O56: every TC of the reset machine is at rest with empty buffers and an empty event slot. -/
theorem invAtReset : Obligations.InvAtReset := by
  have hempty (base : Nat) : ¬AddressWaits (Tc.reset Config.params base) := fun ⟨_, _, hw⟩ => by cases hw
  refine ⟨⟨⟨Nat.zero_le _, forall_instances_reset tcInv_reset⟩, forall_instances_reset transferInv_reset⟩, ?_, ?_⟩
  · exact forall_instances_reset fun base _ => hempty base
  · exact forall_instances_reset fun base hw => absurd hw (hempty base)
end

section
/-!
SUPPORT. The register accesses of the host (20_memory.md R72 to R77): what a read and a write can do, one register at a
time, and the faults of an access and of a command.
-/

namespace Sys2Proof.Machine

section
variable {s t : State}

/-! ### The register map (30 R96) -/

theorem regAt_eq_some_iff {off : Nat} {r : Reg} : regAt off = some r ↔ off = regOff r := by
  constructor
  · intro h
    unfold regAt at h
    split at h <;> cases h <;> rfl
  · rintro rfl
    cases r with
    | errcnt k => cases k <;> rfl
    | _ => rfl

theorem regOff_le (r : Reg) : regOff r ≤ 0x88 := by
  cases r with
  | errcnt k => cases k <;> decide
  | _ => decide

theorem regAt_of_undefined {off : Nat} (h : 0x8C ≤ off) : regAt off = none := by
  rw [Option.eq_none_iff_forall_ne_some]
  intro r hr
  have := regAt_eq_some_iff.mp hr
  have := regOff_le r
  omega

/-- The registers a write can change; to the others it is ignored (20 R73, 30 R96). -/
def Reg.writable : Reg → Bool
  | .cmd | .arg0 | .arg1 | .arg2 | .status | .timeoutDefault | .dmaThresh | .irqPrio | .irqEn | .irqPend => true
  | _ => false

theorem writeReg_of_not_writable {r : Reg} (h : r.writable = false) (v : Word) (s : State) : writeReg r v s = s := by
  cases r with
  | cmd | arg0 | arg1 | arg2 | status | timeoutDefault | dmaThresh | irqPrio | irqEn | irqPend => cases h
  | _ => rfl

/-! ### What an access does -/

/-- Everything a read can do: it faults, reads a register, or returns 0 where none is (20 R72, R73). -/
theorem hostRead_dispatch (off size : Nat) (s : State) :
    ((size ≠ 4 ∨ off % 4 ≠ 0) ∧ hostRead off size s = .fault (.hostAccess off)) ∨
      (size = 4 ∧ off % 4 = 0) ∧
        ((∃ r, regAt off = some r ∧ hostRead off size s = readReg r s) ∨
          (regAt off = none ∧ hostRead off size s = .next (returnValue 0 s))) := by
  unfold hostRead
  split
  · next h => exact .inl ⟨by simpa [accessOk, imp_iff_not_or] using h, rfl⟩
  · next h =>
    refine .inr ⟨by simpa [accessOk] using h, ?_⟩
    split
    · next r hr => exact .inl ⟨r, hr, rfl⟩
    · next hr => exact .inr ⟨hr, rfl⟩

/-- Everything a write can do: it faults, runs a command, writes another register, or is ignored where none is
(20 R72, R73). -/
theorem hostWrite_dispatch (off size : Nat) (v : Word) (s : State) :
    ((size ≠ 4 ∨ off % 4 ≠ 0) ∧ hostWrite off size v s = .fault (.hostAccess off)) ∨
      (size = 4 ∧ off % 4 = 0) ∧
        ((regAt off = some .cmd ∧ hostWrite off size v s = writeCmd v s) ∨
          (∃ r, regAt off = some r ∧ hostWrite off size v s = .next (writeReg r v s)) ∨
          (regAt off = none ∧ hostWrite off size v s = .next s)) := by
  unfold hostWrite
  split
  · next h => exact .inl ⟨by simpa [accessOk, imp_iff_not_or] using h, rfl⟩
  · next h =>
    refine .inr ⟨by simpa [accessOk] using h, ?_⟩
    split
    · next hr => exact .inl ⟨hr, rfl⟩
    · next r _ hr => exact .inr (.inl ⟨r, hr, rfl⟩)
    · next hr => exact .inr (.inr ⟨hr, rfl⟩)

/-- 20 R73: a write is ignored where no register or a read-only one is. -/
theorem hostWrite_ignored {off : Nat} (hoff : off % 4 = 0) (h : (regAt off).any Reg.writable = false) (v : Word)
    (s : State) : hostWrite off 4 v s = .next s := by
  rcases hostWrite_dispatch off 4 v s with ⟨hbad, -⟩ | ⟨-, ⟨hr, -⟩ | ⟨r, hr, he⟩ | ⟨-, he⟩⟩
  · omega
  · simp [hr, Reg.writable] at h
  · rw [he, writeReg_of_not_writable (by simpa [hr] using h)]
  · exact he

/-! ### What an access leaves alone -/

/-- A register write changes at most the configuration, the command and the event registers (46 R272). -/
theorem writeReg_groups (r : Reg) (v : Word) (s : State) :
    ∃ (c : CfgRegs) (m : CmdRegs) (e : EvRegs), writeReg r v s = { s with tc.cfg := c, tc.cmd := m, tc.ev := e } := by
  cases r <;> exact ⟨_, _, _, rfl⟩

theorem hostWrite_groups {off size : Nat} {v : Word} (hoff : off ≠ 0) (h : hostWrite off size v s = .next t) :
    ∃ (c : CfgRegs) (m : CmdRegs) (e : EvRegs), t = { s with tc.cfg := c, tc.cmd := m, tc.ev := e } := by
  rcases hostWrite_dispatch off size v s with ⟨-, he⟩ | ⟨-, ⟨hr, -⟩ | ⟨r, -, he⟩ | ⟨-, he⟩⟩
  · rw [he] at h; cases h
  · exact absurd (regAt_eq_some_iff.mp hr) hoff
  · rw [he] at h; cases h; exact writeReg_groups r v s
  · rw [he] at h; cases h; exact ⟨_, _, _, rfl⟩

/-- `t` is `s` but for the read cursor, the event state and the returned value, the first changed only if `pops` and the
second only if `claims` (20 R77). -/
def ReadChanges (pops claims : Prop) (s t : State) : Prop :=
  ∃ (n : Nat) (e : EvRegs) (r : Option Word),
    t = { s with tc.buf.rxidx := n, tc.ev := e, rdata := r } ∧
    (¬pops → n = s.tc.buf.rxidx) ∧ (¬claims → e = s.tc.ev)

theorem ReadChanges.returnValue (p c : Prop) (v : Word) (s : State) : ReadChanges p c s (returnValue v s) :=
  ⟨_, _, _, rfl, fun _ => rfl, fun _ => rfl⟩

/-- 20 R77: only RXDATA moves the read cursor, and only IRQ_CLAIM changes the event state. -/
theorem readChanges_readReg (r : Reg) (s : State) :
    Yields (ReadChanges (r = .rxdata) (r = .irqClaim) s) (readReg r s) := by
  cases r with
  | rxdata =>
    simp only [readReg, readPop, yields_ite, yields_readRx, yields_next]
    exact ⟨fun _ _ _ => ⟨_, _, _, rfl, fun h => absurd trivial h, fun _ => rfl⟩, fun _ => .returnValue ..⟩
  | rxpeek =>
    simp only [readReg, readPeek, yields_ite, yields_readRx, yields_next]
    exact ⟨fun _ _ _ => .returnValue .., fun _ => .returnValue ..⟩
  | irqClaim => exact yields_next.mpr ⟨_, _, _, rfl, fun _ => rfl, fun h => absurd rfl h⟩
  | _ => exact yields_next.mpr (.returnValue ..)

theorem readChanges_hostRead (off size : Nat) (s : State) :
    Yields (ReadChanges (off = 0x44) (off = 0x3C) s) (hostRead off size s) := by
  rcases hostRead_dispatch off size s with ⟨-, he⟩ | ⟨-, ⟨r, hr, he⟩ | ⟨-, he⟩⟩ <;> rw [he]
  · exact yields_fault _
  · obtain rfl := regAt_eq_some_iff.mp hr
    intro t ht
    obtain ⟨n, e, v, heq, hn, hev⟩ := readChanges_readReg r s t ht
    exact ⟨n, e, v, heq, fun h => hn fun hr => h (hr ▸ rfl), fun h => hev fun hr => h (hr ▸ rfl)⟩
  · exact yields_next.mpr (.returnValue ..)

/-! ### Faults -/

theorem gated_ne_fault {g : Bool} {body : State → State} {f : Fault} : gated g body s ≠ .fault f := by
  rcases gated_cases g body s with ⟨h, -⟩ | ⟨h, -⟩ <;> simp [h]

/-- The one fault of a command: SLAVE_RELEASE finds no value in cell 0 (45 R250, 10 R35). -/
theorem exec_eq_fault {i : Instr} {f : Fault} (h : exec i s = .fault f) :
    i = .slaveRelease ∧ s.tc.slave.hold = .sreq ∧ 0 < s.tc.buf.txlen ∧ s.tc.buf.txbuf.read 0 = none ∧
      f = .unwrittenCell .tx 0 := by
  cases i with
  | slaveRelease =>
    simp only [exec, execSlaveRelease] at h
    split at h
    · next hold =>
      simp only [sendOrZero] at h
      split at h
      · next hlen =>
        rcases readTx_cases _ _ _ with ⟨b, -, he⟩ | ⟨hread, he⟩ <;> rw [he] at h <;> cases h
        exact ⟨rfl, hold, hlen, hread, rfl⟩
      · cases h
    · cases h
    · cases h
  | resetErrcnt =>
    simp only [exec, execResetErrcnt] at h
    split at h <;> cases h
  | eoi => cases h
  | _ =>
    simp only [exec, execConfigure, execSetStrategy, execSetRate, execBeginWrite, execWriteByte, execWriteBytes,
      execEndWrite, execSendWrite, execRead, execSendRead, execAwait, execResetBus] at h
    exact absurd h gated_ne_fault

/-- The one fault of a register read: the next receive cell holds no value (46 R274, R275, 10 R35). -/
theorem readReg_eq_fault {r : Reg} {f : Fault} (h : readReg r s = .fault f) :
    (r = .rxdata ∨ r = .rxpeek) ∧ s.tc.buf.rxidx < s.tc.buf.rxlen ∧ s.tc.buf.rxbuf.read s.tc.buf.rxidx = none ∧
      f = .unwrittenCell .rx s.tc.buf.rxidx := by
  cases r with
  | rxdata | rxpeek =>
    simp only [readReg, readPop, readPeek] at h
    split at h
    · next hlt =>
      rcases readRx_cases _ _ _ with ⟨b, -, he⟩ | ⟨hread, he⟩ <;> rw [he] at h <;> cases h
      exact ⟨by simp, hlt, hread, rfl⟩
    · cases h
  | _ => cases h

theorem writeCmd_ne_hostAccess (v : Word) (s : State) (o : Nat) : writeCmd v s ≠ .fault (.hostAccess o) := by
  unfold writeCmd
  split
  · intro h
    obtain ⟨-, -, -, -, hf⟩ := exec_eq_fault h
    cases hf
  · simp

theorem readReg_ne_hostAccess (r : Reg) (s : State) (o : Nat) : readReg r s ≠ .fault (.hostAccess o) := by
  intro h
  obtain ⟨-, -, -, hf⟩ := readReg_eq_fault h
  cases hf

/-- 20 R72. -/
theorem hostRead_eq_hostAccess_iff {off size o : Nat} :
    hostRead off size s = .fault (.hostAccess o) ↔ o = off ∧ (size ≠ 4 ∨ off % 4 ≠ 0) := by
  rcases hostRead_dispatch off size s with ⟨hbad, he⟩ | ⟨hok, ⟨r, -, he⟩ | ⟨-, he⟩⟩ <;> rw [he]
  · rw [and_iff_left hbad]
    simpa using eq_comm
  · simp [hok, readReg_ne_hostAccess]
  · simp [hok]

/-- 20 R72. -/
theorem hostWrite_eq_hostAccess_iff {off size o : Nat} {v : Word} :
    hostWrite off size v s = .fault (.hostAccess o) ↔ o = off ∧ (size ≠ 4 ∨ off % 4 ≠ 0) := by
  rcases hostWrite_dispatch off size v s with ⟨hbad, he⟩ | ⟨hok, ⟨-, he⟩ | ⟨r, -, he⟩ | ⟨-, he⟩⟩ <;> rw [he]
  · rw [and_iff_left hbad]
    simpa using eq_comm
  · simp [hok, writeCmd_ne_hostAccess]
  · simp [hok]
  · simp [hok]

end

end Sys2Proof.Machine
end

section
open Sys2Proof Sys2Proof.Machine

/-- Settles O28: a write other than CMD changes at most the configuration, command and event registers, a read moves the
cursor at RXDATA and the event state at IRQ_CLAIM alone, and no register at the other offsets is writable. -/
theorem registerAccessFrame : Obligations.RegisterAccessFrame := by
  refine ⟨fun off v s t hoff h => ?_, fun off s t h => readChanges_hostRead off 4 s t h, fun off v s hal hoff => ?_⟩
  · have houtside := keepsOutside_hostWrite off 4 v t h
    obtain ⟨c, m, e, rfl⟩ := hostWrite_groups hoff h
    exact ⟨houtside, rfl, rfl, rfl, rfl, rfl, rfl, rfl, rfl⟩
  · refine hostWrite_ignored hal ?_ v s
    rcases hoff with hlist | hundef
    · have hreadOnly : ∀ o ∈ [0x10, 0x18, 0x1C, 0x20, 0x28, 0x3C, 0x40, 0x44, 0x48, 0x4C, 0x50, 0x54, 0x58, 0x5C, 0x60,
          0x64, 0x68, 0x6C, 0x70, 0x74, 0x78, 0x7C, 0x80, 0x84, 0x88], (regAt o).any Reg.writable = false := by decide
      exact hreadOnly off hlist
    · simp [regAt_of_undefined hundef]

/-- Settles O29: no register read, command or register write raises the host access fault; an access of the wrong size
or alignment raises it before any of them. -/
theorem misalignedAccessFaults : Obligations.MisalignedAccessFaults := fun _ _ _ _ _ =>
  ⟨hostRead_eq_hostAccess_iff, hostWrite_eq_hostAccess_iff⟩
end

section
/-!
SUPPORT. The command word (30_encoding.md R90 to R93, R101): what the decoder reads from a word, which opcodes it knows,
and the fields of a command's canonical word.
-/

namespace Sys2Proof

/-- The command `i` with the fields it uses read from the word (30 R91). -/
def Instr.withFields (w : Word) : Instr → Instr
  | .writeBytes _ => .writeBytes (fieldNbytes w)
  | .endWrite _ _ => .endWrite (fieldS w) (fieldD w)
  | .sendWrite _ => .sendWrite (fieldS w)
  | .read _ _ => .read (fieldS w) (fieldD w)
  | .sendRead _ => .sendRead (fieldS w)
  | .await _ => .await (fieldD w)
  | i => i

section
variable {w v : Word} {i : Instr}

/-! ### Which word decodes to what -/

theorem decodeOpc_opc (i : Instr) (w : Word) : decodeOpc i.opc.toNat w = some (i.withFields w) := by
  cases i <;> rfl

theorem decodeOpc_eq_some {opc : Nat} (h : decodeOpc opc w = some i) : opc = i.opc.toNat ∧ i.withFields w = i := by
  unfold decodeOpc at h
  split at h <;> cases h <;> exact ⟨rfl, rfl⟩

/-- A word decodes to a command exactly if it has the command's opcode and fields (30 R91, R93). -/
theorem decode_eq_ok_iff : decode w = .ok i ↔ fieldOpc w = i.opc ∧ i.withFields w = i := by
  unfold decode
  constructor
  · intro h
    split at h
    · next j hj =>
      cases h
      obtain ⟨hopc, hfields⟩ := decodeOpc_eq_some hj
      exact ⟨BitVec.eq_of_toNat_eq hopc, hfields⟩
    · cases h
  · rintro ⟨hopc, hfields⟩
    rw [hopc, decodeOpc_opc, hfields]

/-- Reading the fields a command uses a second time changes nothing. -/
@[simp] theorem withFields_withFields (w : Word) (i : Instr) : (i.withFields w).withFields w = i.withFields w := by
  cases i <;> rfl

@[simp] theorem opc_withFields (w : Word) (i : Instr) : (i.withFields w).opc = i.opc := by
  cases i <;> rfl

/-- A word with the opcode of `i` decodes to `i` with the word's fields (30 R93). -/
theorem decode_of_opc (h : fieldOpc w = i.opc) : decode w = .ok (i.withFields w) :=
  decode_eq_ok_iff.mpr ⟨by simpa using h, withFields_withFields w i⟩

theorem decode_eq_error_iff {e : DecodeError} :
    decode w = .error e ↔ e = .illegalOpcode (fieldOpc w) ∧ ∀ i : Instr, fieldOpc w ≠ i.opc := by
  constructor
  · intro h
    refine ⟨?_, fun i hi => ?_⟩
    · unfold decode at h
      split at h <;> cases h
      rfl
    · rw [decode_of_opc hi] at h
      cases h
  · rintro ⟨rfl, hopc⟩
    unfold decode
    split
    · next i hi => exact absurd (BitVec.eq_of_toNat_eq (decodeOpc_eq_some hi).1) (hopc i)
    · rfl

/-! ### The fields of a word -/

theorem toNat_fieldOpc (w : Word) : (fieldOpc w).toNat = w.toNat % 256 := by
  simp [fieldOpc, BitVec.extractLsb'_toNat]

theorem toNat_and_0xFF (w : Word) : (w &&& 0x000000FF).toNat = w.toNat % 256 :=
  Nat.and_two_pow_sub_one_eq_mod w.toNat 8

theorem and_0xFF_eq_iff {b : Byte} : w &&& 0x000000FF = b.setWidth 32 ↔ fieldOpc w = b := by
  have hb : b.toNat % 2 ^ 32 = b.toNat := Nat.mod_eq_of_lt (by omega)
  rw [← BitVec.toNat_inj, ← BitVec.toNat_inj, toNat_and_0xFF, BitVec.toNat_setWidth, hb, toNat_fieldOpc]

theorem fieldNbytes_eq (w : Word) : fieldNbytes w = ((w >>> 10) &&& 0x00000003).toNat + 1 := by
  have hmask : ((w >>> 10) &&& 0x00000003).toNat = (w >>> 10).toNat % 4 := Nat.and_two_pow_sub_one_eq_mod _ 2
  rw [hmask]
  simp [fieldNbytes, BitVec.extractLsb'_toNat]

theorem fieldNbytes_bounds (w : Word) : 1 ≤ fieldNbytes w ∧ fieldNbytes w ≤ 4 := by
  unfold fieldNbytes
  omega

@[simp] theorem wf_withFields (w : Word) (i : Instr) : (i.withFields w).wf = true := by
  cases i with
  | writeBytes n => simpa [Instr.withFields, Instr.wf] using fieldNbytes_bounds w
  | _ => rfl

theorem wf_of_decode (h : decode w = .ok i) : i.wf = true := by
  obtain ⟨-, hfields⟩ := decode_eq_ok_iff.mp h
  rw [← hfields, wf_withFields]

/-- Bits 31:12 are read by no field (30 R91). -/
theorem decode_eq_of_low_bits (h : w &&& 0x00000FFF = v &&& 0x00000FFF) : decode w = decode v := by
  have hbit (k : Nat) (hk : k < 12) : w.getLsbD k = v.getLsbD k := by
    have hk' := congrArg (fun x : Word => x.getLsbD k) h
    interval_cases k <;> simpa using hk'
  have hopc : fieldOpc w = fieldOpc v := BitVec.eq_of_getLsbD_eq fun k hk => by
    simp [fieldOpc, hk, hbit k (by omega)]
  have hcount : w.extractLsb' 10 2 = v.extractLsb' 10 2 := BitVec.eq_of_getLsbD_eq fun k hk => by
    simp [hk, hbit (10 + k) (by omega)]
  have hs : fieldS w = fieldS v := hbit 8 (by omega)
  have hd : fieldD w = fieldD v := hbit 9 (by omega)
  have hn : fieldNbytes w = fieldNbytes v := by simp only [fieldNbytes, hcount]
  simp only [decode, decodeOpc, hopc, hs, hd, hn]

/-! ### The canonical word of a command (30 R90) -/

/-- The layout of the command word, from bit 0 up. -/
theorem getLsbD_encode (i : Instr) (k : Nat) :
    (encode i).getLsbD k =
      if k < 8 then i.opc.getLsbD k
      else if k = 8 then i.stopBit
      else if k = 9 then i.defaultBit
      else i.countField.getLsbD (k - 10) := by
  unfold encode
  change BitVec.getLsbD (w := 20 + 2 + 1 + 1 + 8) _ k = _
  simp only [BitVec.getLsbD_append, BitVec.getLsbD_ofBool]
  by_cases hopc : k < 8
  · simp [hopc]
  by_cases hstop : k = 8
  · simp [hstop]
  by_cases hdefault : k = 9
  · simp [hdefault]
  have h9 : ¬k - 8 < 1 := by omega
  have h10 : ¬k - 8 - 1 < 1 := by omega
  have hcount : k - 8 - 1 - 1 = k - 10 := by omega
  have hlow (h : i.countField.getLsbD (k - 10) = true) : k ≤ 11 := by
    have := BitVec.lt_of_getLsbD h
    omega
  simpa [hopc, hstop, hdefault, h9, h10, hcount] using hlow

@[simp] theorem fieldOpc_encode (i : Instr) : fieldOpc (encode i) = i.opc := by
  apply BitVec.eq_of_getLsbD_eq
  intro k hk
  simp [fieldOpc, getLsbD_encode, hk]

@[simp] theorem fieldS_encode (i : Instr) : fieldS (encode i) = i.stopBit := getLsbD_encode i 8

@[simp] theorem fieldD_encode (i : Instr) : fieldD (encode i) = i.defaultBit := getLsbD_encode i 9

@[simp] theorem fieldNbytes_encode (i : Instr) : fieldNbytes (encode i) = i.countField.toNat + 1 := by
  have hcount : (encode i).extractLsb' 10 2 = i.countField := by
    apply BitVec.eq_of_getLsbD_eq
    intro k hk
    have hbits : ¬10 + k < 8 ∧ 10 + k ≠ 8 ∧ 10 + k ≠ 9 := by omega
    simp [getLsbD_encode, hk, hbits]
  rw [fieldNbytes, hcount]

/-- The canonical word carries the fields of a well-formed command (30 R91). -/
theorem withFields_encode (h : i.wf = true) : i.withFields (encode i) = i := by
  cases i with
  | writeBytes n =>
    simp only [Instr.wf, Bool.and_eq_true, decide_eq_true_eq] at h
    have hn : (BitVec.ofNat 2 (n - 1)).toNat = n - 1 := Nat.mod_eq_of_lt (by omega)
    simp only [Instr.withFields, fieldNbytes_encode, Instr.countField, hn]
    congr 1
    omega
  | endWrite | sendWrite | read | sendRead | await =>
    simp [Instr.withFields, Instr.stopBit, Instr.defaultBit]
  | _ => rfl

theorem decode_encode (h : i.wf = true) : decode (encode i) = .ok i :=
  decode_eq_ok_iff.mpr ⟨fieldOpc_encode i, withFields_encode h⟩

end

end Sys2Proof
end

section
open Sys2Proof

/-- Settles O1: the canonical word carries the opcode and the fields of its command, and a word decodes to the command
with its opcode and its fields. -/
theorem encodeDecodeRoundTrip : Obligations.EncodeDecodeRoundTrip := fun _ h => decode_encode h

/-- Settles O2: no field reads a bit above 11, and a word with the opcode of a command decodes to that command with the
word's fields. -/
theorem commandWordFields : Obligations.CommandWordFields := by
  have hop {w : Word} (i : Instr) (h : w &&& 0x000000FF = i.opc.setWidth 32) : decode w = .ok (i.withFields w) :=
    decode_of_opc (and_0xFF_eq_iff.mp h)
  refine ⟨fun _ _ => decode_eq_of_low_bits, fun w h => fieldNbytes_eq w ▸ hop (.writeBytes 1) h,
    fun _ => hop (.endWrite false false), fun _ => hop (.sendWrite false), fun _ => hop (.read false false),
    fun _ => hop (.sendRead false), fun _ => hop (.await false), fun _ => hop .configure, fun _ => hop .setStrategy,
    fun _ => hop .setRate, fun _ => hop .beginWrite, fun _ => hop .writeByte, fun _ => hop .slaveRelease,
    fun _ => hop .resetBus, fun _ => hop .resetErrcnt, fun _ => hop .eoi⟩

/-- Settles O3: a command a word decodes to has the word's opcode, and its count is a field of two bits plus 1. -/
theorem decodedCommandsAreWellFormed : Obligations.DecodedCommandsAreWellFormed := by
  intro w i h
  have hwf := wf_of_decode h
  have hopc := (decode_eq_ok_iff.mp h).1
  refine ⟨hwf, ?_, decode_encode hwf⟩
  rw [and_0xFF_eq_iff.mpr (fieldOpc_encode i), and_0xFF_eq_iff.mpr hopc]

/-- Settles O4: each word evaluates to its command. -/
theorem decodesSpecWords : Obligations.DecodesSpecWords := by
  unfold Obligations.DecodesSpecWords
  decide
end

section
/-!
SUPPORT. The acceptance of a CMD write (30_encoding.md R100, R101) and the step that takes it (20_memory.md R74, R83).
-/

namespace Sys2Proof.Machine

section
variable {s t : State} {w : Word} {i : Instr}

/-! ### The CMD register -/

@[simp] theorem hostWrite_cmd (w : Word) (s : State) : hostWrite (regOff .cmd) 4 w s = writeCmd w s := rfl

theorem writeCmd_of_decode (h : decode w = .ok i) (s : State) : writeCmd w s = exec i s := by
  simp [writeCmd, h]

theorem writeCmd_of_illegal {e : DecodeError} (h : decode w = .error e) (s : State) :
    writeCmd w s = .next (illegalCmd s) := by
  simp [writeCmd, h]

/-- The instances before the focus are as many as its number: asking for that number leaves the focus where it is. -/
@[simp] theorem focusAt_before_length (s : State) : focusAt s.before.length s = some s := by
  simp [focusAt, instances]

/-- The host's write of a word to CMD of the TC in focus is the CMD write there (30 R90). -/
theorem move_cmdWrite (w : Word) (s : State) : move (cmdWrite w s) s = writeCmd w s := by
  have hfocus : focusHost (.reg s.before.length (regOff .cmd)) s = some (s, regOff .cmd) := by
    simp [focusHost, regOff]
  simp only [cmdWrite, move, hostAccess, hfocus, hostWrite_cmd]

theorem step_of_cmdWrite {rest : List Move} (h : s.script = cmdWrite w s :: rest) :
    step s = writeCmd w { s with script := rest } :=
  (step_script h).trans (move_cmdWrite w { s with script := rest })

theorem decode_of_decodeTableWord {nbits n : Nat} (h : decodeTableWord nbits n = some i) :
    decode (BitVec.ofNat 32 (n % 2 ^ nbits)) = .ok i := by
  unfold decodeTableWord at h
  split at h
  · next hd => cases h; exact hd
  · cases h

/-! ### Rejection and the housekeeping commands (30 R100) -/

theorem gated_reject {g : Bool} {body : State → State} (h : s.tc.cmd.busy = true ∨ g = true) :
    gated g body s = .next (rejectCmd s) := by
  rcases gated_cases g body s with ⟨he, -⟩ | ⟨-, hbusy, hg⟩
  · exact he
  · simp [hbusy, hg] at h

/-- A command that is rejected changes `cmd_reject` only (30 R100). -/
theorem exec_of_commandRejected (h : commandRejected i s = true) : exec i s = .next (rejectCmd s) := by
  cases i with
  | slaveRelease | resetErrcnt | eoi => cases h
  | _ =>
    simp only [exec, execConfigure, execSetStrategy, execSetRate, execBeginWrite, execWriteByte, execWriteBytes,
      execEndWrite, execSendWrite, execRead, execSendRead, execAwait, execResetBus]
    exact gated_reject (by simpa [commandRejected, or_assoc] using h)

theorem commandRejected_of_busy (hi : isHousekeeping i = false) (h : s.tc.cmd.busy = true) :
    commandRejected i s = true := by
  cases i with
  | slaveRelease | resetErrcnt | eoi => cases hi
  | _ => simp [commandRejected, h]

theorem startRejects_iff : startRejects s = true ↔ s.tc.cfg.mode = .slave ∨ masterActive s = true := by
  simp [startRejects]

theorem commandRejected_of_startRejects (hi : isTransferStart i = true) (h : startRejects s = true) :
    commandRejected i s = true := by
  cases i with
  | endWrite | sendWrite | read | sendRead => simp [commandRejected, h]
  | _ => cases hi

/-- A housekeeping command is never rejected and writes no RESULT: it leaves the command registers alone (30 R100). -/
theorem exec_housekeeping_cmd (hi : isHousekeeping i = true) : Yields (fun t => t.tc.cmd = s.tc.cmd) (exec i s) := by
  cases i with
  | slaveRelease =>
    simp only [exec, execSlaveRelease]
    split
    · simp
    · exact yields_next.mpr rfl
    · exact yields_next.mpr rfl
  | resetErrcnt =>
    simp only [exec, execResetErrcnt]
    split <;> exact yields_next.mpr rfl
  | eoi => exact yields_next.mpr rfl
  | _ => cases hi

end

end Sys2Proof.Machine
end

section
open Sys2Proof Sys2Proof.Machine

/-- Settles O5: the opcode of a command lies outside the ranges, so the decoder rejects the word. -/
theorem illegalOpcodeSetsFlagOnly : Obligations.IllegalOpcodeSetsFlagOnly := by
  intro w s hrange
  refine writeCmd_of_illegal (decode_eq_error_iff.mpr ⟨rfl, fun i hi => ?_⟩) s
  rw [← toNat_fieldOpc, hi] at hrange
  cases i <;> simp [Instr.opc] at hrange

/-- Settles O6: the move concerns the TC in focus, whose CMD write runs the decoded command. -/
theorem stepRunsDecodedCommand : Obligations.StepRunsDecodedCommand := by
  refine ⟨fun s w i rest hd hs => ?_, fun s nbits n i hd => ?_⟩
  · rw [step_of_cmdWrite hs, writeCmd_of_decode hd]
  · exact (step_of_cmdWrite rfl).trans (writeCmd_of_decode (decode_of_decodeTableWord hd) s)

/-- Settles O7: each guard is a case of `commandRejected`, and a housekeeping command keeps the command registers. -/
theorem commandAcceptance : Obligations.CommandAcceptance := by
  refine ⟨fun w i s h => writeCmd_of_decode h s, fun w e s h => writeCmd_of_illegal h s,
    fun i s hi h => exec_of_commandRejected (commandRejected_of_busy hi h),
    fun s h => exec_of_commandRejected (by simp [commandRejected, h]),
    fun s h => exec_of_commandRejected ?beginWrite,
    fun n s h =>
      ⟨exec_of_commandRejected (by simp [commandRejected, h]), exec_of_commandRejected (by simp [commandRejected, h])⟩,
    fun i s hi h => exec_of_commandRejected (commandRejected_of_startRejects hi (startRejects_iff.mpr h)),
    fun s h => exec_of_commandRejected ?resetBus, fun i s t hi h => ?housekeeping⟩
  case beginWrite => rcases h with h | h <;> simp [commandRejected, h]
  case resetBus => rcases h with h | h <;> simp [commandRejected, h]
  case housekeeping =>
    have hcmd := exec_housekeeping_cmd hi t h
    exact ⟨congrArg CmdRegs.reject hcmd, congrArg CmdRegs.result hcmd⟩

/-- Settles O42: the trace grows by the command, and the port's own state changes as its case of `portEffect` says. -/
theorem portCommandEffects : Obligations.PortCommandEffects := by
  intro s
  refine ⟨fun _ _ _ => rfl, rfl, rfl, rfl, fun b hm => ?_, fun b hm => ?_, fun _ => rfl, fun c hc => ?_, fun _ => rfl,
    fun _ => rfl⟩
  · simp [emit, portEffect, hm]
  · simp [emit, portEffect, hm]
  · fin_cases hc <;> rfl
end

section
/-!
SUPPORT. The contract of LINK (30_encoding.md R106, R107): when each delivery is made, and what state it gives.
-/

namespace Sys2Proof.Machine

section
variable {s t : State}

/-! ### The shared operations of a delivery -/

theorem mapNext_eq_next_iff {f : State → State} {r : Result} : mapNext f r = .next t ↔ ∃ u, r = .next u ∧ t = f u := by
  refine ⟨mapNext_eq_next, ?_⟩
  rintro ⟨u, rfl, rfl⟩
  rfl

theorem placeLev_eq_next_iff {ev : LinkEv} :
    placeLev ev s = .next t ↔ s.tc.port.lev = none ∧ t = { s with tc.port.lev := some ev } := by
  rcases placeLev_cases ev s with ⟨hlev, he⟩ | ⟨hlev, he⟩ <;> simp [he, hlev, eq_comm]

theorem answerIssued_eq_next_iff {x : Issued} {k : State → Result} :
    answerIssued x s k = .next t ↔
      ∃ rest, s.tc.link.issued = x :: rest ∧ k { s with tc.link.issued := rest } = .next t := by
  constructor
  · intro h
    rcases answerIssued_cases x s k with ⟨rest, hi, he⟩ | he <;> rw [he] at h
    · exact ⟨rest, hi, h⟩
    · cases h
  · rintro ⟨rest, hi, h⟩
    simpa [answerIssued, hi] using h

theorem slaveEvent_eq_next_iff {k : Result} :
    slaveEvent s k = .next t ↔
      (s.tc.cfg.mode = .slave ∧ s.tc.slave.hold = .none ∧ s.tc.link.stretched = false) ∧ k = .next t := by
  constructor
  · intro h
    obtain ⟨hm, hh, hs, hk⟩ := slaveEvent_eq_next h
    exact ⟨⟨hm, hh, hs⟩, hk⟩
  · rintro ⟨⟨hm, hh, hs⟩, hk⟩
    simpa [slaveEvent, hm, hh, hs] using hk

/-- 44 R221, item 3. -/
theorem routesTc_iff :
    routesTc s = true ↔ s.tc.dma.enabled = true ∧ s.tc.dma.dir = .tx ∧ s.tc.dma.next ≤ s.tc.dma.last := by
  simp [routesTc, and_assoc]

/-- 44 R221, item 3. -/
theorem routesRc_iff :
    routesRc s = true ↔ s.tc.dma.enabled = true ∧ s.tc.dma.dir = .rx ∧ s.tc.dma.pending = true := by
  simp [routesRc, and_assoc]

/-- A received byte the DMA agent takes leaves the event slot and the link alone (44 R221, item 3). -/
theorem dmaTakeByte_keeps_lev_link (d : Byte) (s : State) :
    Yields (fun t => t.tc.port.lev = s.tc.port.lev ∧ t.tc.link = s.tc.link) (dmaTakeByte d s) := by
  simp [dmaTakeByte]

/-! ### The deliveries -/

/-- While the pins are in GPIO mode nothing is delivered (30 R107 (h)). -/
theorem pinsGpio_of_deliver {ev : LinkEv} (h : deliver ev s = .next t) : s.tc.rcv.pinsGpio = false := by
  unfold deliver at h
  split at h
  · cases h
  · next hp => simpa using hp

theorem deliver_tc_eq_next_iff {a n : Bool} (hp : s.tc.rcv.pinsGpio = false) :
    deliver (.tc a n) s = .next t ↔
      ∃ rest, s.tc.link.issued = .write :: rest ∧
        if a = false ∧ n = false ∧ routesTc s = true then
          t = { s with tc.link.issued := rest, tc.dma.ready := true }
        else s.tc.port.lev = none ∧ t = { s with tc.link.issued := rest, tc.port.lev := some (.tc a n) } := by
  have hroute (rest : List Issued) : routesTc { s with tc.link.issued := rest } = routesTc s := rfl
  simp only [deliver, hp, Bool.false_eq_true, if_false, deliverTc, answerIssued_eq_next_iff, hroute]
  refine exists_congr fun rest => and_congr_right fun _ => ?_
  by_cases hr : a = false ∧ n = false ∧ routesTc s = true
  · simp [hr, eq_comm]
  · rw [if_neg hr, if_neg (by simpa [and_assoc] using hr), placeLev_eq_next_iff]

theorem deliver_rc_eq_next_iff {a : Bool} {d : Byte} (hp : s.tc.rcv.pinsGpio = false) :
    deliver (.rc a d) s = .next t ↔
      ∃ rest, s.tc.link.issued = .recv :: rest ∧
        if a = false ∧ routesRc s = true then dmaTakeByte d { s with tc.link.issued := rest } = .next t
        else s.tc.port.lev = none ∧ t = { s with tc.link.issued := rest, tc.port.lev := some (.rc a d) } := by
  have hroute (rest : List Issued) : routesRc { s with tc.link.issued := rest } = routesRc s := rfl
  simp only [deliver, hp, Bool.false_eq_true, if_false, deliverRc, answerIssued_eq_next_iff, hroute]
  refine exists_congr fun rest => and_congr_right fun _ => ?_
  by_cases hr : a = false ∧ routesRc s = true
  · simp [hr]
  · rw [if_neg hr, if_neg (by simpa using hr), placeLev_eq_next_iff]

/-- The link may give the slave side an event: slave mode, no hold and no stretch (30 R107 (f), (g), 45 R243). -/
def SlaveListens (s : State) : Prop :=
  s.tc.cfg.mode = .slave ∧ s.tc.slave.hold = .none ∧ s.tc.link.stretched = false

theorem deliver_addr_eq_next_iff {a : Addr7} {rw : Bool} (hp : s.tc.rcv.pinsGpio = false) :
    deliver (.addr a rw) s = .next t ↔
      SlaveListens s ∧ addrMatches s a = true ∧ s.tc.port.lev = none ∧
        t = { s with tc.port.lev := some (.addr a rw), tc.link.stretched := rw } := by
  simp only [deliver, hp, Bool.false_eq_true, if_false, deliverAddr, slaveEvent_eq_next_iff, SlaveListens]
  cases hm : addrMatches s a <;> simp [mapNext_eq_next_iff, placeLev_eq_next_iff, and_assoc]

theorem deliver_srx_eq_next_iff {d : Byte} (hp : s.tc.rcv.pinsGpio = false) :
    deliver (.srx d) s = .next t ↔
      SlaveListens s ∧ s.tc.port.lev = none ∧ t = { s with tc.port.lev := some (.srx d) } := by
  simp [deliver, hp, slaveEvent_eq_next_iff, placeLev_eq_next_iff, SlaveListens]

theorem deliver_stx_eq_next_iff {ack : Bool} (hp : s.tc.rcv.pinsGpio = false) :
    deliver (.stx ack) s = .next t ↔
      SlaveListens s ∧ s.tc.link.slaveByte = true ∧ s.tc.port.lev = none ∧
        t = { s with
          tc.port.lev := some (.stx ack), tc.link.slaveByte := false, tc.link.stretched := ack } := by
  simp only [deliver, hp, Bool.false_eq_true, if_false, deliverStx, slaveEvent_eq_next_iff, SlaveListens]
  cases hb : s.tc.link.slaveByte <;> simp [mapNext_eq_next_iff, placeLev_eq_next_iff, and_assoc]

theorem deliver_stopf_eq_next_iff (hp : s.tc.rcv.pinsGpio = false) :
    deliver .stopf s = .next t ↔
      SlaveListens s ∧ s.par.hasStopf = true ∧ s.tc.port.lev = none ∧ t = { s with tc.port.lev := some .stopf } := by
  simp only [deliver, hp, Bool.false_eq_true, if_false, SlaveListens]
  cases hs : s.par.hasStopf <;> simp [slaveEvent_eq_next_iff, placeLev_eq_next_iff]

end

end Sys2Proof.Machine
end

section
open Sys2Proof Sys2Proof.Machine

/-- Settles O50: the state a delivery gives, and the condition of each event, are those of its `deliver_…_eq_next_iff`,
which is read in both directions. -/
theorem linkContractKept : Obligations.LinkContractKept := by
  refine ⟨fun s a => ?predicate, fun ev s t h => ?kept, fun s hp hlev => ⟨?tc, ?rc, fun hm hh hs => ?slave⟩,
    fun _ _ => rfl⟩
  case predicate => cases hr : s.tc.cfg.rangeEn <;> simp [addrMatches, hr]
  case kept =>
    have hp := pinsGpio_of_deliver h
    cases ev with
    | tc a n =>
      obtain ⟨rest, hi, hcase⟩ := (deliver_tc_eq_next_iff hp).mp h
      split at hcase
      · next hr =>
        obtain ⟨rfl, rfl, hroute⟩ := hr
        subst hcase
        simp [hp, hi, isSlaveEvent, (routesTc_iff.mp hroute).1]
      · obtain ⟨hlev, rfl⟩ := hcase
        simp [hp, hi, hlev, isSlaveEvent]
    | rc a d =>
      obtain ⟨rest, hi, hcase⟩ := (deliver_rc_eq_next_iff hp).mp h
      split at hcase
      · next hr =>
        obtain ⟨rfl, hroute⟩ := hr
        obtain ⟨hlev, hlink⟩ := dmaTakeByte_keeps_lev_link d _ t hcase
        simp [hp, hi, hlev, hlink, isSlaveEvent, (routesRc_iff.mp hroute).1]
      · obtain ⟨hlev, rfl⟩ := hcase
        simp [hp, hi, hlev, isSlaveEvent]
    | addr a rw =>
      obtain ⟨hlisten, hmatch, hlev, rfl⟩ := (deliver_addr_eq_next_iff hp).mp h
      obtain ⟨hm, hh, hs⟩ := hlisten
      simp [hp, hm, hh, hs, hmatch, hlev]
    | srx d =>
      obtain ⟨hlisten, hlev, rfl⟩ := (deliver_srx_eq_next_iff hp).mp h
      obtain ⟨hm, hh, hs⟩ := hlisten
      simp [hp, hm, hh, hs, hlev]
    | stx ack =>
      obtain ⟨hlisten, hbyte, hlev, rfl⟩ := (deliver_stx_eq_next_iff hp).mp h
      obtain ⟨hm, hh, hs⟩ := hlisten
      simp [hp, hm, hh, hs, hbyte, hlev]
    | stopf =>
      obtain ⟨hlisten, hstopf, hlev, rfl⟩ := (deliver_stopf_eq_next_iff hp).mp h
      obtain ⟨hm, hh, hs⟩ := hlisten
      simp [hp, hm, hh, hs, hstopf, hlev]
  case tc =>
    intro a n rest hi hfree
    have hroute : ¬(a = false ∧ n = false ∧ routesTc s = true) := by
      rintro ⟨ha, hn, hr⟩
      obtain ⟨hen, hdir, hle⟩ := routesTc_iff.mp hr
      simp [ha, hn, hen, hdir, not_lt.mpr hle] at hfree
    exact (deliver_tc_eq_next_iff hp).mpr ⟨rest, hi, by rw [if_neg hroute]; exact ⟨hlev, rfl⟩⟩
  case rc =>
    intro a d rest hi hfree
    have hroute : ¬(a = false ∧ routesRc s = true) := by
      rintro ⟨ha, hr⟩
      obtain ⟨hen, hdir, hpend⟩ := routesRc_iff.mp hr
      simp [ha, hen, hdir, hpend] at hfree
    exact (deliver_rc_eq_next_iff hp).mpr ⟨rest, hi, by rw [if_neg hroute]; exact ⟨hlev, rfl⟩⟩
  case slave =>
    have hlisten : SlaveListens s := ⟨hm, hh, hs⟩
    exact ⟨fun a rw hmatch => (deliver_addr_eq_next_iff hp).mpr ⟨hlisten, hmatch, hlev, rfl⟩,
      fun d => (deliver_srx_eq_next_iff hp).mpr ⟨hlisten, hlev, rfl⟩,
      fun ack hbyte => (deliver_stx_eq_next_iff hp).mpr ⟨hlisten, hbyte, hlev, rfl⟩,
      fun hstopf => (deliver_stopf_eq_next_iff hp).mpr ⟨hlisten, hstopf, hlev, rfl⟩⟩
end

section
/-!
SUPPORT. What the configuration commands answer once they are not rejected (40_config.md R120 to R124).
-/

namespace Sys2Proof.Machine

section
variable {s : State} {i : Instr} {st : Strategy}

/-! ### The strategy operand (30 R102) and `ResolveStrategy` (40 R121) -/

theorem strategyOfCode_three : strategyOfCode 3 = none := rfl

theorem strategyOfCode_strategyCode (st : Strategy) : strategyOfCode (strategyCode st) = some st := by
  cases st <;> rfl

/-- DMA is selected with a channel that is owned or can be had, and is Interrupt otherwise; only a DMA request touches
the allocation, which is then exactly the ownership (40 R121). -/
theorem resolveStrategy_eq (st : Strategy) (s : State) :
    resolveStrategy st s =
      (if st = .dma ∧ (s.tc.cfg.dmaAlloc || s.tc.port.dmaAvailable) = false then .interrupt else st,
        if st = .dma then s.tc.cfg.dmaAlloc || s.tc.port.dmaAvailable else s.tc.cfg.dmaAlloc) := by
  by_cases hst : st = .dma
  · cases howned : s.tc.cfg.dmaAlloc || s.tc.port.dmaAvailable
    · obtain ⟨halloc, havail⟩ := Bool.or_eq_false_iff.mp howned
      simp [resolveStrategy, hst, halloc, havail]
    · simp [resolveStrategy, hst, howned]
  · simp [resolveStrategy, hst]

/-! ### Refusal and effect -/

/-- A refused configuration command writes RESULT 0 and nothing else, whatever it is refused for (40 R123, 30 R102). -/
theorem exec_of_configRefused (hi : i = .configure ∨ i = .setStrategy ∨ i = .setRate)
    (haccept : commandRejected i s = false) (hrefuse : commandRefused i s = true) :
    exec i s = .next (setResult 0 s) := by
  rcases hi with rfl | rfl | rfl
  case inl =>
    obtain ⟨hbusy, hact⟩ := Bool.or_eq_false_iff.mp haccept
    rw [exec, execConfigure, gated_accept hbusy hact]
    rcases Bool.or_eq_true_iff.mp hrefuse with hbus | hcode
    · simp [hbus]
    · simp [Option.isNone_iff_eq_none.mp hcode]
  case inr.inl =>
    rw [exec, execSetStrategy, gated_accept haccept rfl]
    rcases Bool.or_eq_true_iff.mp hrefuse with hbus | hcode
    · simp [hbus]
    · simp [Option.isNone_iff_eq_none.mp hcode]
  case inr.inr =>
    have hbus : s.tc.port.linkBusy = true := hrefuse
    rw [exec, execSetRate, gated_accept haccept rfl, if_pos hbus]

/-- CONFIGURE with a legal strategy on a free bus takes effect (40 R120). -/
theorem exec_configure_of_strategy (hbusy : s.tc.cmd.busy = false) (hact : masterActive s = false)
    (hbus : s.tc.port.linkBusy = false) (hst : argConfigStrategy s = some st) :
    exec .configure s = .next (configureApply st s) := by
  simp [exec, execConfigure, gated_accept hbusy hact, hbus, hst]

/-- SET_STRATEGY with a legal strategy on a free bus writes what `ResolveStrategy` gives (40 R122). -/
theorem exec_setStrategy_of_strategy (hbusy : s.tc.cmd.busy = false) (hbus : s.tc.port.linkBusy = false)
    (hst : argStrategy s = some st) :
    exec .setStrategy s = .next
      { s with
        tc.cfg.strategy := (resolveStrategy st s).1
        tc.cfg.dmaAlloc := (resolveStrategy st s).2
        tc.cmd.result := 1 } := by
  simp [exec, execSetStrategy, gated_accept hbusy rfl, hbus, hst, setResult]

/-- SET_RATE on a free bus gives the link its rate (40 R124). -/
theorem exec_setRate_of_free (hbusy : s.tc.cmd.busy = false) (hbus : s.tc.port.linkBusy = false) :
    exec .setRate s = .next (setResult 1 (emit (.rate s.tc.cmd.arg0) { s with tc.cfg.rate := s.tc.cmd.arg0 })) := by
  simp [exec, execSetRate, gated_accept hbusy rfl, hbus]

end

end Sys2Proof.Machine
end

section
open Sys2Proof.Machine

/-- Settles O8: a busy bus is a refusal of each of the three commands. -/
theorem configRefusedWhileBusBusy : Obligations.ConfigRefusedWhileBusBusy := by
  intro s hbusy hbus
  exact ⟨fun hact => exec_of_configRefused (.inl rfl) (by simp [commandRejected, hbusy, hact])
      (by simp [commandRefused, hbus]),
    exec_of_configRefused (.inr (.inl rfl)) hbusy (by simp [commandRefused, hbus]),
    exec_of_configRefused (.inr (.inr rfl)) hbusy hbus⟩

/-- Settles O9: the guard rejects, a busy bus and code 3 refuse, and any other code is a strategy that
`configureApply` resolves. -/
theorem configureEffect : Obligations.ConfigureEffect := by
  refine ⟨fun s hact => exec_of_commandRejected (by simp [commandRejected, hact]),
    fun s hbusy hact hbus => (configRefusedWhileBusBusy s hbusy hbus).1 hact,
    fun s hbusy hact hbus => ⟨fun hcode => ?reserved, fun st hcode => ?legal⟩⟩
  case reserved =>
    have harg : argConfigStrategy s = none := (congrArg strategyOfCode hcode).trans strategyOfCode_three
    exact exec_of_configRefused (.inl rfl) (by simp [commandRejected, hbusy, hact]) (by simp [commandRefused, harg])
  case legal =>
    have harg : argConfigStrategy s = some st :=
      (congrArg strategyOfCode hcode).trans (strategyOfCode_strategyCode st)
    rw [exec_configure_of_strategy hbusy hact hbus harg, configureApply, resolveStrategy_eq]
    rfl

/-- Settles O10: as CONFIGURE, with the strategy and the allocation alone written. -/
theorem setStrategyEffect : Obligations.SetStrategyEffect := by
  refine ⟨fun s hbusy hbus => (configRefusedWhileBusBusy s hbusy hbus).2.1,
    fun s hbusy hbus => ⟨fun hcode => ?reserved, fun st hcode => ?legal⟩⟩
  case reserved =>
    have harg : argStrategy s = none := (congrArg strategyOfCode hcode).trans strategyOfCode_three
    exact exec_of_configRefused (.inr (.inl rfl)) hbusy (by simp [commandRefused, harg])
  case legal =>
    have harg : argStrategy s = some st := (congrArg strategyOfCode hcode).trans (strategyOfCode_strategyCode st)
    rw [exec_setStrategy_of_strategy hbusy hbus harg, resolveStrategy_eq]

/-- Settles O11: the bus decides between the refusal and the new rate. -/
theorem setRateEffect : Obligations.SetRateEffect := fun s hbusy =>
  ⟨fun hbus => (configRefusedWhileBusBusy s hbusy hbus).2.2, fun hbus => exec_setRate_of_free hbusy hbus⟩
end

section
/-!
SUPPORT. The effective strategy of a transfer, and what the four transfer-start commands answer past their guard and
pre-checks (41_acquisition_recovery.md R140 to R144, 42_master_tx.md R165, R166, 43_master_rx.md R192).
-/

namespace Sys2Proof.Machine

section
variable {s : State} {k : Kind} {len : Nat} {st : Strategy}

/-! ### The effective strategy -/

theorem mustEscalate_iff :
    mustEscalate st s = true ↔
      st ≠ .immediate ∧ s.tc.cfg.prioChk = true ∧ s.tc.ev.isrDepth = 0 ∧ s.tc.cfg.irqPrio ≤ s.hostPrio := by
  simp [mustEscalate, and_assoc]

theorem escalate_of_not (h : ¬mustEscalate st s = true) : escalate st s = (st, s.tc.cfg.irqPrio) := if_neg h

/-- Below PRIO_MAX the interrupt's priority is raised over the caller's (41 R142). -/
theorem escalate_raises (h : mustEscalate st s = true) (hp : s.hostPrio < s.par.prioMax) :
    escalate st s = (st, s.hostPrio + 1) := by
  rw [escalate, if_pos h, if_pos hp]

/-- At PRIO_MAX there is no higher priority, and the strategy is forced (41 R142). -/
theorem escalate_forces (h : mustEscalate st s = true) (hp : s.par.prioMax ≤ s.hostPrio) :
    escalate st s = (.immediate, s.tc.cfg.irqPrio) := by
  rw [escalate, if_pos h, if_neg (not_lt.mpr hp)]

theorem dmaMin_eq (k : Kind) (s : State) :
    dmaMin k s = max s.tc.cfg.dmaThresh.toNat (if k = .tx then 4 else 2) := by
  cases k <;> rfl

/-- The threshold test comes after the escalation (41 R143). -/
theorem resolveEff_of_escalate {p : Nat} (h : escalate s.tc.cfg.strategy s = (st, p)) :
    resolveEff k len s =
      (if st = .dma ∧ len < max s.tc.cfg.dmaThresh.toNat (if k = .tx then 4 else 2) then .interrupt else st, p) := by
  simp only [resolveEff, h, dmaMin_eq]
  exact (apply_ite (·, p) _ _ _).symm

/-! ### The transfer starts -/

/-- A transfer start that the common guard accepts runs (41 R140). -/
theorem gated_startRejects_accept {body : State → State} (hbusy : s.tc.cmd.busy = false)
    (hm : s.tc.cfg.mode = .master) (ha : masterActive s = false) :
    gated (startRejects s) body s = .next (body s) :=
  gated_accept hbusy (by simp [startRejects, hm, ha])

theorem startTx_of_pos {stop b : Bool} {w : Word} (h : 0 < s.tc.buf.txlen) :
    startTx stop b w s = startTransfer .tx s.tc.buf.txlen b w { s with tc.xfer.stopReq := stop } :=
  if_neg h.ne'

theorem startRx_of_fits {stop b : Bool} {w : Word} (hpos : s.tc.cmd.arg1 ≠ 0)
    (hcap : s.tc.cmd.arg1.toNat ≤ s.par.rxCap) :
    startRx stop b w s =
      startTransfer .rx s.tc.cmd.arg1.toNat b w
        { s with
          tc.xfer.ovf := false
          tc.xfer.rxTarget := argTarget s
          tc.xfer.stopReq := stop
          tc.buf.rxreq := s.tc.cmd.arg1
          tc.buf.rxlen := 0
          tc.buf.rxidx := 0 } :=
  (if_neg hpos).trans (if_neg (not_lt.mpr hcap))

end

end Sys2Proof.Machine
end

section
open Sys2Proof Sys2Proof.Machine

/-- Settles O17: the escalation answers one of three pairs, and the threshold test acts on its strategy. -/
theorem effectiveStrategy : Obligations.EffectiveStrategy := by
  intro k len s least kept checked
  refine ⟨fun hst => ?immediate, fun hst hchk hlt => ?raised, fun hst hchk hle => ?forced, fun hst hchk => ?unchecked⟩
  case immediate =>
    have he : ¬mustEscalate s.tc.cfg.strategy s = true := fun h => (mustEscalate_iff.mp h).1 hst
    rw [resolveEff_of_escalate (escalate_of_not he), hst]
    rfl
  case raised => exact resolveEff_of_escalate (escalate_raises (mustEscalate_iff.mpr ⟨hst, hchk⟩) hlt)
  case forced => exact resolveEff_of_escalate (escalate_forces (mustEscalate_iff.mpr ⟨hst, hchk⟩) hle)
  case unchecked => exact resolveEff_of_escalate (escalate_of_not fun h => hchk (mustEscalate_iff.mp h).2)

/-- Settles O16: past its guard each command is StartTransfer on the registers its own file assigns. -/
theorem startTransferEffect : Obligations.StartTransferEffect := by
  refine ⟨fun s stop d hbusy hm ha hlen => ?transmit, fun s stop d hbusy hm ha hpos hcap => ?receive⟩
  case transmit =>
    simp only [exec, execEndWrite, execSendWrite, gated_startRejects_accept hbusy hm ha, startTx_of_pos hlen]
    exact ⟨rfl, rfl⟩
  case receive =>
    simp only [exec, execRead, execSendRead, gated_startRejects_accept hbusy hm ha, startRx_of_fits hpos hcap]
    exact ⟨rfl, rfl⟩
end

section
/-!
SUPPORT. The recovery: how it starts, its steps and its end (41_acquisition_recovery.md R149 to R152).
-/

namespace Sys2Proof.Machine

section
variable {s : State}

/-- Everything `StartRecovery` does: the pins are taken, SDA is released before SCL (41 R150). -/
theorem startRecovery_eq (s : State) :
    startRecovery s =
      { s with
        tc.rcv.pinsGpio := true
        tc.rcv.k := 0
        tc.rcv.step := .sample
        tc.link.sent := s.tc.link.sent ++ [.pins true, .sdaRelease, .sclRelease] } := by
  simp [startRecovery, emit, portEffect]

/-! ### The steps (41 R151) -/

theorem sclWaitOver_iff :
    sclWaitOver s = true ↔
      s.tc.port.scl = true ∨ ∃ x, s.par.sclWait = .bounded x ∧ x + 1 ≤ (s.nowUs - s.tc.rcv.t).toNat := by
  cases h : s.par.sclWait <;> simp [sclWaitOver, h]

/-- With RESET_BUS or an auto-retry in progress a step is enabled outside IDLE, but that HIGH waits for SCL. -/
theorem stepRule_recover (hbusy : s.tc.cmd.busy = true) (hop : s.tc.cmd.op = .recover)
    (hwait : s.tc.rcv.step = .high → sclWaitOver s = true) : stepRule .recover s = fireRecover s := by
  unfold stepRule
  cases hstep : s.tc.rcv.step <;> simp [ruleEnabled, canRecover, fireRule, fireRecover, hbusy, hop, hstep, hwait]

theorem stepRule_recover_refused (h : canRecover s = false) :
    stepRule .recover s = .refused (.notEnabled .recover) := by
  simp [stepRule, ruleEnabled, h]

/-! ### The end (41 R152) -/

/-- The toggles take bits 3:0 and the stuck line bit 8 (41 R152). -/
theorem recoveryWord_eq (stuck : Bool) (k : Nat) :
    recoveryWord stuck k = BitVec.ofNat 32 (k % 16 + 256 * stuck.toNat) := by
  have hfields : ∀ (c : BitVec 4) (b : Bool),
      c.setWidth 32 ||| bitAt b 8 = BitVec.ofNat 32 (c.toNat + 256 * b.toNat) := by decide
  exact hfields (BitVec.ofNat 4 k) stuck

theorem endRecovery_of_internal (h : s.tc.rcv.internal = true) :
    endRecovery s =
      { recoveryCleanup s with tc.rcv.internal := false, tc.cmd.op := .acq, tc.cmd.t0 := s.nowUs } := by
  simp [endRecovery, recoveryCleanup, h]

theorem endRecovery_of_resetBus (h : s.tc.rcv.internal = false) :
    endRecovery s = completeCmd (recoveryWord (!s.tc.port.sda) s.tc.rcv.k) (recoveryCleanup s) := by
  simp [endRecovery, recoveryCleanup, h]

end

end Sys2Proof.Machine
end

section
open Sys2Proof Sys2Proof.Machine

/-- Settles O37: one step for each place of the sequencer, the end being `EndRecovery` in its two cases. -/
theorem recoverySteps : Obligations.RecoverySteps := by
  refine ⟨fun s h => stepRule_recover_refused ?idle, fun s hbusy hop => ⟨fun hstep hsda hk => ?toggle, fun hstep => ?low,
    fun hstep => ⟨fun hpassed => ?high, fun hwait => stepRule_recover_refused ?waits⟩, fun hstep hend => ?ends⟩⟩
  case idle => rcases h with h | h | h <;> simp [canRecover, h]
  case waits =>
    have hover : sclWaitOver s = false := by simpa using mt sclWaitOver_iff.mp hwait
    simp [canRecover, hstep, hover]
  case high =>
    rw [stepRule_recover hbusy hop fun _ => sclWaitOver_iff.mpr hpassed]
    simp [fireRecover, hstep]
  all_goals rw [stepRule_recover hbusy hop fun hhigh => by simp [hstep] at hhigh]
  case toggle => simp [fireRecover, hstep, hsda, hk, recoveryToggles]
  case low => simp [fireRecover, hstep]
  case ends =>
    have hfire : fireRecover s = .next (endRecovery s) := by simp [fireRecover, hstep, recoveryToggles, hend]
    rw [hfire]
    refine ⟨fun hint => ?_, fun hint => ?_⟩
    · rw [endRecovery_of_internal hint]
      rfl
    · rw [endRecovery_of_resetBus hint, recoveryWord_eq]
      rfl

/-- Settles O20: the guard accepts, and the recovery starts. -/
theorem resetBusEffect : Obligations.ResetBusEffect := by
  intro s hbusy hact hhold
  rw [exec, execResetBus, gated_accept hbusy (by simp [hact, hhold]), startRecovery_eq]
end

section
/-!
SUPPORT. The acquisition poll: when it is enabled, the launch on a bus that is held or free, and the failure
(41_acquisition_recovery.md R145 to R147, 42_master_tx.md R167, 43_master_rx.md R193).
-/

namespace Sys2Proof.Machine

section
variable {s : State}

/-! ### The launch (42 R167, 43 R193) -/

/-- The address byte of a receive (20 R76). -/
theorem addressByte_read (a : Addr7) : addressByte a true = BitVec.ofNat 8 (2 * a.toNat + 1) := by
  revert a
  decide

/-- A transfer under way has no result yet: an async command returns 0xFF (46 R280). -/
theorem afterLaunch_of_not_done (h : isDone s = false) :
    afterLaunch s = if s.tc.cmd.blocking then { s with tc.cmd.op := .xfer } else completeCmd 0xFF s := by
  simp [afterLaunch, errCode, h]

section
variable {e : Strategy} (heff : s.tc.xfer.eff = e)
include heff

/-- The transmit buffer's first byte goes out, after the DMA setup of the rest (42 R167, 44 R222). -/
theorem launch_tx {b : Byte} {n : Nat} (hk : s.tc.cmd.kind = .tx) (hb : s.tc.buf.txbuf.read 0 = some b)
    (hlen : s.tc.buf.txlen = n) :
    let t : State := { s with tc.xfer.status := .sending, tc.buf.txidx := 0 }
    launch s =
      .next (afterLaunch (emit (.write b)
        (if e = .dma then { emit (.dmaProgram .tx 2 (n - 3)) t with tc.xfer.dmaPhase := .addr } else t))) := by
  subst heff hlen
  by_cases heff : s.tc.xfer.eff = .dma <;> simp [launch, hk, txLaunch, readTx, heff, dmaTxSetup, hb]

/-- The address byte goes out, after the DMA setup of all bytes but the last (43 R193, 44 R223). -/
theorem launch_rx {n : Nat} {a : Addr7} (hk : s.tc.cmd.kind = .rx) (hreq : s.tc.buf.rxreq.toNat = n)
    (ha : s.tc.xfer.rxTarget = a) :
    let t : State := { s with tc.xfer.status := .sendAddr }
    launch s =
      .next (afterLaunch (emit (.write (BitVec.ofNat 8 (2 * a.toNat + 1)))
        (if e = .dma then { emit (.dmaProgram .rx 0 (n - 1)) t with tc.xfer.dmaPhase := .addr } else t))) := by
  subst heff hreq ha
  by_cases heff : s.tc.xfer.eff = .dma <;> simp [launch, hk, rxLaunch, heff, dmaRxSetup, addressByte_read]

end

/-! ### The poll (41 R145) -/

/-- The bus is taken by a repeated START where the TC holds it, else by a START. -/
def claimBus (s : State) : State :=
  if s.tc.xfer.masterHeld then emit .rstart s else { emit .start s with tc.xfer.masterHeld := true }

@[simp] theorem claimBus_buf (s : State) : (claimBus s).tc.buf = s.tc.buf := by
  unfold claimBus
  split <;> simp

@[simp] theorem claimBus_cmd (s : State) : (claimBus s).tc.cmd = s.tc.cmd := by
  unfold claimBus
  split <;> simp

@[simp] theorem claimBus_eff (s : State) : (claimBus s).tc.xfer.eff = s.tc.xfer.eff := by
  unfold claimBus
  split <;> simp

@[simp] theorem claimBus_rxTarget (s : State) : (claimBus s).tc.xfer.rxTarget = s.tc.xfer.rxTarget := by
  unfold claimBus
  split <;> simp

theorem canAcquire_iff :
    canAcquire s = true ↔
      s.tc.cmd.busy = true ∧ s.tc.cmd.op = .acq ∧ s.tc.rcv.step = .idle ∧
        (s.tc.xfer.masterHeld = true ∨ s.tc.port.linkBusy = false ∨ expired s = true) := by
  simp [canAcquire, and_assoc, or_assoc]

theorem fireAcquire_of_bus (h : s.tc.xfer.masterHeld = true ∨ s.tc.port.linkBusy = false) :
    fireAcquire s = launch (claimBus s) := by
  cases hm : s.tc.xfer.masterHeld
  · simp [fireAcquire, claimBus, hm, h.resolve_left (by simp [hm])]
  · simp [fireAcquire, claimBus, hm]

theorem fireAcquire_of_no_bus (hm : s.tc.xfer.masterHeld = false) (hb : s.tc.port.linkBusy = true) :
    fireAcquire s = .next (acqFail s) := by
  simp [fireAcquire, hm, hb]

/-! ### The failure (41 R146, R147) -/

theorem acqFail_of_retry (h : s.tc.cfg.autoRetry = true ∧ s.tc.cmd.acqRetried = false) :
    acqFail s =
      startRecovery { s with tc.cmd.acqRetried := true, tc.rcv.internal := true, tc.cmd.op := .recover } := by
  simp [acqFail, h]

theorem acqFail_of_no_retry (h : s.tc.cfg.autoRetry = false ∨ s.tc.cmd.acqRetried = true) :
    acqFail s = acqGiveUp s := by
  rcases h with h | h <;> simp [acqFail, h]

end

end Sys2Proof.Machine
end

section
open Sys2Proof Sys2Proof.Machine

/-- Settles O36: the guard, the launch on the bus the poll takes, and the two ways it fails. -/
theorem acquisitionPoll : Obligations.AcquisitionPoll := by
  refine ⟨fun s => canAcquire_iff, ?_⟩
  intro s hbusy hop hidle claimedBus goOn
  have enabled (h : s.tc.xfer.masterHeld = true ∨ s.tc.port.linkBusy = false ∨ expired s = true) :
      stepRule .acquire s = fireAcquire s := by
    simp [stepRule, ruleEnabled, fireRule, canAcquire_iff.mpr ⟨hbusy, hop, hidle, h⟩]
  have hgoOn (t : State) (ht : isDone t = false) : afterLaunch t = goOn t := afterLaunch_of_not_done ht
  refine ⟨fun hm hb he => ?waits, fun hbus => ?launches, fun hm hb he => ?fails⟩
  case waits => simp [stepRule, ruleEnabled, canAcquire, hm, hb, he]
  case launches =>
    have hfire : stepRule .acquire s = launch (claimBus s) :=
      (enabled (hbus.imp_right .inl)).trans (fireAcquire_of_bus hbus)
    have hbuf := claimBus_buf s
    refine ⟨fun b hk hcell => ?_, fun hk => ?_⟩
    · rw [hfire, launch_tx (claimBus_eff s) (by simpa) (by simpa) (congrArg BufRegs.txlen hbuf), hgoOn]
      · rfl
      · split <;> simp [isDone, statusDone]
    · rw [hfire, launch_rx (claimBus_eff s) (by simpa) (congrArg (·.rxreq.toNat) hbuf) (claimBus_rxTarget s), hgoOn]
      · rfl
      · split <;> simp [isDone, statusDone]
  case fails =>
    have hfire : stepRule .acquire s = .next (acqFail s) :=
      (enabled (.inr (.inr he))).trans (fireAcquire_of_no_bus hm hb)
    refine ⟨fun hretry => ?_, fun hno => ?_⟩
    · rw [hfire, acqFail_of_retry hretry, startRecovery_eq]
    · rw [hfire, acqFail_of_no_retry hno]
      rfl
end

section
/-!
SUPPORT. What each operation gives the ports (30_encoding.md R105, 44_dma_handoff.md R220), and that the acquisition poll
alone gives a START or a repeated START (41_acquisition_recovery.md R148).
-/

namespace Sys2Proof.Machine

/-! ### What the shared operations give the ports -/

/-- What closing the channel gives the DMA agent in the phase `ph` (42 R175). -/
def shutdownCmds (ph : DmaPhase) : List PortCmd := if ph = .off then [] else [.dmaDisable, .dmaClear]

@[simp] theorem not_mem_shutdownCmds {c : PortCmd} {ph : DmaPhase} (h : c.toLink = true) : c ∉ shutdownCmds ph := by
  unfold shutdownCmds
  split
  · simp
  · intro hm
    rcases (by simpa using hm : c = .dmaDisable ∨ c = .dmaClear) with rfl | rfl <;> cases h

@[simp] theorem dmaShutdown_sent (s : State) :
    (dmaShutdown s).tc.link.sent = s.tc.link.sent ++ shutdownCmds s.tc.xfer.dmaPhase := by
  unfold dmaShutdown
  split <;> simp [shutdownCmds, *]

@[simp] theorem finalize_sent (s : State) :
    (finalize s).tc.link.sent = s.tc.link.sent ++ shutdownCmds s.tc.xfer.dmaPhase := by
  unfold finalize finalizeFlags
  simp only []
  split <;> simp

@[simp] theorem endArbLost_sent (s : State) :
    (endArbLost s).tc.link.sent = s.tc.link.sent ++ shutdownCmds s.tc.xfer.dmaPhase := by
  simp [endArbLost]

@[simp] theorem endWithStop_sent (st : Status) (s : State) :
    (endWithStop st s).tc.link.sent =
      s.tc.link.sent ++ .stop :: shutdownCmds s.tc.xfer.dmaPhase := by
  simp [endWithStop]

@[simp] theorem endSuccess_sent (ev : HostEv) (s : State) :
    (endSuccess ev s).tc.link.sent =
      s.tc.link.sent ++ ((if s.tc.xfer.stopReq then [.stop] else []) ++
        shutdownCmds s.tc.xfer.dmaPhase) := by
  unfold endSuccess
  simp only []
  split <;> split <;> simp_all

@[simp] theorem startRecovery_sent (s : State) :
    (startRecovery s).tc.link.sent = s.tc.link.sent ++ [.pins true, .sdaRelease, .sclRelease] := by
  rw [startRecovery_eq]

/-! ### The trace of a step -/

/-- The trace `a` grows to `b`, by a START only where `free` holds and by a repeated START only where `held` does. -/
def TraceGrows (free held : Prop) (a b : List PortCmd) : Prop :=
  ∃ l, b = a ++ l ∧ (PortCmd.start ∈ l → free) ∧ (PortCmd.rstart ∈ l → held)

section
variable {free held : Prop} {a b : List PortCmd}

@[simp] theorem traceGrows_append {l : List PortCmd} :
    TraceGrows free held a (a ++ l) ↔ (PortCmd.start ∈ l → free) ∧ (PortCmd.rstart ∈ l → held) := by
  simp [TraceGrows]

@[simp] theorem traceGrows_self : TraceGrows free held a a := ⟨[], by simp⟩

/-- A command first, and then neither a START nor a repeated START. -/
theorem TraceGrows.cons {c : PortCmd} (h : TraceGrows False False (a ++ [c]) b) (hs : c = .start → free)
    (hr : c = .rstart → held) : TraceGrows free held a b := by
  obtain ⟨l, rfl, hsl, hrl⟩ := h
  refine ⟨c :: l, by simp, fun hm => ?_, fun hm => ?_⟩
  · exact hs ((List.mem_cons.mp hm).resolve_right hsl).symm
  · exact hr ((List.mem_cons.mp hm).resolve_right hrl).symm

theorem TraceGrows.mono (h : TraceGrows False False a b) : TraceGrows free held a b := by
  obtain ⟨l, hl, hs, hr⟩ := h
  exact ⟨l, hl, fun hm => (hs hm).elim, fun hm => (hr hm).elim⟩

end

section
variable {s : State}

/-- The state `t` comes from `s` with neither a START nor a repeated START. -/
def StartsNone (s t : State) : Prop := TraceGrows False False s.tc.link.sent t.tc.link.sent

@[simp] theorem startsNone_iff {t : State} :
    StartsNone s t ↔ TraceGrows False False s.tc.link.sent t.tc.link.sent := Iff.rfl

/-! ### Rules -/

theorem startsNone_launch : Yields (StartsNone s) (launch s) := by
  unfold launch
  rw [yields_mapNext]
  split
  · simp only [txLaunch, yields_readTx, yields_next]
    intro b _
    unfold afterLaunch
    split_ifs <;> simp [dmaTxSetup]
  · simp only [rxLaunch, yields_next]
    unfold afterLaunch
    split_ifs <;> simp [dmaRxSetup]

/-- The poll takes the bus by the one command its branch allows (41 R145, R148). -/
theorem traceGrows_fireAcquire :
    Yields (fun t => TraceGrows (s.tc.port.linkBusy = false ∧ s.tc.xfer.masterHeld = false)
      (s.tc.xfer.masterHeld = true) s.tc.link.sent t.tc.link.sent) (fireAcquire s) := by
  unfold fireAcquire
  split_ifs with hheld hbusy
  · intro t ht
    have h := startsNone_iff.mp (startsNone_launch t ht)
    rw [emit_sent] at h
    exact h.cons (by simp) fun _ => hheld
  · intro t ht
    have h := startsNone_iff.mp (startsNone_launch t ht)
    rw [emit_sent] at h
    exact h.cons (fun _ => by simpa using And.intro hbusy hheld) (by simp)
  · rw [yields_next]
    unfold acqFail acqGiveUp
    split <;> simp

theorem startsNone_endRecovery (s : State) : StartsNone s (endRecovery s) := by
  unfold endRecovery
  simp only []
  split <;> simp [recoveryCleanup]

theorem startsNone_fireRule {r : Rule} (hr : r ≠ .acquire) : Yields (StartsNone s) (fireRule r s) := by
  cases r with
  | acquire => exact absurd rfl hr
  | recover =>
    simp only [fireRule, fireRecover]
    split
    · rw [yields_ite]
      exact ⟨fun _ => yields_next.mpr (startsNone_endRecovery s), fun _ => by simp⟩
    all_goals simp
  | timeout => simp [fireRule, fireTimeout]
  | txDone =>
    simp only [fireRule, fireTxDone, txCompletion, txTimeoutEnd, txNak, txNext, txLast]
    split
    · split_ifs <;> simp [dmaTxEnterBulk]
    · simp
  | addrDone =>
    simp only [fireRule, fireAddrDone, addrNaked, addrAcked]
    split
    · split_ifs <;> simp [issueRecv, dmaRxEnterBulk]
    · simp
  | rxByte =>
    simp only [fireRule, fireRxByte]
    split
    · simp [issueRecv]
    · simp
  | rxFinal =>
    simp only [fireRule, fireRxFinal]
    split
    · simp
    · simp
  | bulkError => simp [fireRule, fireBulkError]
  | dmaDone =>
    simp only [fireRule, fireDmaDone]
    split <;> simp
  | dmaError => simp [fireRule, fireDmaError]
  | dmaStale => simp [fireRule, fireDmaStale]
  | boundary => simp [fireRule, fireBoundary]
  | dispatch =>
    simp only [fireRule, fireDispatch, slaveSetup, slaveTxSetup, slaveRxSetup]
    split
    · split_ifs <;> simp
    · simp
  | slaveRx =>
    simp only [fireRule, fireSlaveRx]
    split <;> simp
  | slaveTx =>
    simp only [fireRule, fireSlaveTx]
    split <;> simp
  | stopDetect => simp [fireRule, fireStopDetect, slaveRxEnd]
  | sdaEdge => simp [fireRule, fireSdaEdge, slaveRxEnd]
  | unexpected => simp [fireRule, fireUnexpected]

/-! ### Moves of LINK and DMA -/

/-- A delivery gives the ports nothing. -/
theorem deliver_sent (ev : LinkEv) : Yields (fun t => t.tc.link.sent = s.tc.link.sent) (deliver ev s) := by
  intro t ht
  have hp := pinsGpio_of_deliver ht
  cases ev with
  | tc a n =>
    obtain ⟨rest, -, h⟩ := (deliver_tc_eq_next_iff hp).mp ht
    split at h
    · rw [h]
    · rw [h.2]
  | rc a d =>
    obtain ⟨rest, -, h⟩ := (deliver_rc_eq_next_iff hp).mp ht
    split at h
    · rw [(dmaTakeByte_keeps_lev_link _ _ t h).2]
    · rw [h.2]
  | addr a rw => obtain ⟨-, -, -, rfl⟩ := (deliver_addr_eq_next_iff hp).mp ht; rfl
  | srx d => obtain ⟨-, -, rfl⟩ := (deliver_srx_eq_next_iff hp).mp ht; rfl
  | stx ack => obtain ⟨-, -, -, rfl⟩ := (deliver_stx_eq_next_iff hp).mp ht; rfl
  | stopf => obtain ⟨-, -, -, rfl⟩ := (deliver_stopf_eq_next_iff hp).mp ht; rfl

theorem startsNone_dmaAgent (d : DmaStep) : Yields (StartsNone s) (dmaAgent d s) := by
  cases d with
  | txElement =>
    simp only [dmaAgent, yields_ite, yields_next, yields_refused, yields_readTx]
    refine ⟨fun _ => trivial, fun _ => ⟨fun _ => trivial, fun _ b _ => ?_⟩⟩
    split_ifs <;> simp
  | rxIssue => simp [dmaAgent]
  | error => simp [dmaAgent]

theorem startsNone_busMove {m : BusMove} (hm : m ≠ .rule .acquire) : Yields (StartsNone s) (busMove m s) := by
  cases m with
  | rule r => exact yields_stepRule.mpr fun _ => startsNone_fireRule fun h => hm (congrArg BusMove.rule h)
  | deliver ev =>
    intro t ht
    rw [startsNone_iff, deliver_sent ev t ht]
    exact traceGrows_self
  | dma d => exact startsNone_dmaAgent d
  | sdaRise => simp [busMove, sdaRise]
  | _ => simp [busMove, powerOn]

/-! ### Commands -/

theorem FillsTx.startsNone {lo hi : Nat} {t : State} (hf : FillsTx lo hi s t) : StartsNone s t := by
  obtain ⟨m, n, o, rfl⟩ := hf.eq
  exact traceGrows_self

theorem startsNone_startTx {stop b : Bool} {w : Word} : StartsNone s (startTx stop b w s) := by
  unfold startTx
  split <;> simp

theorem startsNone_startRx {stop b : Bool} {w : Word} : StartsNone s (startRx stop b w s) := by
  unfold startRx
  simp only []
  split_ifs <;> simp

theorem startsNone_exec (i : Instr) : Yields (StartsNone s) (exec i s) := by
  have accepted {g : Bool} {body : State → State} (hb : StartsNone s (body s)) :
      Yields (StartsNone s) (gated g body s) := yields_gated traceGrows_self fun _ _ => hb
  cases i with
  | configure =>
    simp only [exec, execConfigure]
    refine accepted ?_
    split
    · simp
    · split <;> simp [configureApply, beginContext]
  | setStrategy =>
    simp only [exec, execSetStrategy]
    refine accepted ?_
    split
    · simp
    · split <;> simp
  | setRate =>
    simp only [exec, execSetRate]
    refine accepted ?_
    split <;> simp
  | beginWrite => exact accepted (beginWrite_fills (addressByte (argTarget s) false) s).startsNone
  | writeByte =>
    simp only [exec, execWriteByte]
    refine accepted ?_
    split
    · simp
    · exact (appendOrDrop_fills (argByte s) 0 s).1.startsNone
  | writeBytes n =>
    simp only [exec, execWriteBytes]
    refine accepted ?_
    split
    · simp
    · exact (appendAll_fills (argBytes s.tc.cmd.arg0 n) 0 s).startsNone
  | endWrite stop d => exact accepted startsNone_startTx
  | sendWrite stop => exact accepted startsNone_startTx
  | read stop d => exact accepted startsNone_startRx
  | sendRead stop => exact accepted startsNone_startRx
  | await d =>
    simp only [exec, execAwait]
    refine accepted ?_
    split <;> simp
  | slaveRelease =>
    simp only [exec, execSlaveRelease]
    split <;> simp
  | resetBus =>
    simp only [exec, execResetBus]
    exact accepted (by simp)
  | resetErrcnt =>
    simp only [exec, execResetErrcnt]
    split <;> simp
  | eoi => simp [exec, execEoi]

end

end Sys2Proof.Machine
end

section
open Sys2Proof Sys2Proof.Machine

/-- Settles O38: only the acquisition poll takes the bus, by the command its branch allows. -/
theorem startOnlyOnFreeBus : Obligations.StartOnlyOnFreeBus := by
  refine ⟨fun m s t h => ?_, fun i s t h => startsNone_exec i t h⟩
  by_cases hm : m = .rule .acquire
  · subst hm
    exact yields_stepRule.mpr (fun _ => traceGrows_fireAcquire) t h
  · exact (startsNone_busMove hm t h).mono
end

section
/-!
SUPPORT. What the commands that fill the transmit buffer answer past their guard, and the starts that are refused
(42_master_tx.md R160 to R164, 43_master_rx.md R192).
-/

namespace Sys2Proof.Machine

/-! ### A run of writes -/

/-- Write `bs` to the cells from `i` on, in order. -/
def Memory.writeRun (m : Memory) (i : Nat) : List Byte → Memory
  | [] => m
  | b :: bs => (m.write i b).writeRun (i + 1) bs

/-- A run leaves every cell outside it alone. -/
theorem sameCellsBut_writeRun (bs : List Byte) (m : Memory) (i : Nat) :
    SameCellsBut i (i + bs.length) m (m.writeRun i bs) := by
  induction bs generalizing m i with
  | nil => exact sameCellsBut_refl _ _ m
  | cons b bs ih =>
    intro c hc
    rw [List.length_cons] at hc
    calc (m.writeRun i (b :: bs)).read c
        = (m.write i b).read c := ih _ _ c (by omega)
      _ = m.read c := read_write_other _ _ _ _ (by omega)

/-- Cell `j` of a run reads as byte `j`. -/
theorem read_writeRun (bs : List Byte) (m : Memory) (i : Nat) {j : Nat} (hj : j < bs.length) :
    (m.writeRun i bs).read (i + j) = some bs[j] := by
  induction bs generalizing m i j with
  | nil => cases hj
  | cons b bs ih =>
    cases j with
    | zero =>
      calc (m.writeRun i (b :: bs)).read i
          = (m.write i b).read i := sameCellsBut_writeRun bs _ _ i (.inl (Nat.lt_succ_self i))
        _ = some b := read_write_same m i b
    | succ j =>
      have htail := ih (m.write i b) (i + 1) (Nat.lt_of_succ_lt_succ hj)
      simpa [Memory.writeRun, Nat.add_assoc, Nat.add_comm 1] using htail

section
variable {s : State}

/-! ### The appending operations (42 R161, R162) -/

theorem appendOrDrop_of_room {b : Byte} {c : Nat} (h : s.tc.buf.txlen < s.par.txCap) :
    appendOrDrop b c s = (c + 1, appendTx b s) := if_pos h

theorem appendOrDrop_of_full {b : Byte} {c : Nat} (h : s.par.txCap ≤ s.tc.buf.txlen) :
    appendOrDrop b c s = (c, { s with tc.xfer.ovf := true }) := if_neg (not_lt.mpr h)

/-- As many of the bytes as there is room for are stored and counted; a dropped one is recorded. -/
theorem appendAll_eq (bs : List Byte) (c : Nat) (s : State) {k : Nat}
    (hk : k = min bs.length (s.par.txCap - s.tc.buf.txlen)) :
    appendAll bs c s =
      (c + k,
        { s with
          tc.buf.txbuf := s.tc.buf.txbuf.writeRun s.tc.buf.txlen (bs.take k)
          tc.buf.txlen := s.tc.buf.txlen + k
          tc.xfer.ovf := s.tc.xfer.ovf || decide (k < bs.length) }) := by
  induction bs generalizing c s k with
  | nil =>
    obtain rfl : k = 0 := by simpa using hk
    simp [appendAll, Memory.writeRun]
  | cons b bs ih =>
    rw [List.length_cons] at hk
    by_cases hroom : s.tc.buf.txlen < s.par.txCap
    · obtain ⟨k, rfl⟩ : ∃ j, k = j + 1 := ⟨k - 1, by omega⟩
      have hk' : k = min bs.length ((appendTx b s).par.txCap - (appendTx b s).tc.buf.txlen) := by simp; omega
      rw [appendAll, appendOrDrop_of_room hroom, ih _ _ hk']
      simp [appendTx, Memory.writeRun, Nat.add_assoc, Nat.add_comm 1]
    · obtain rfl : k = 0 := by omega
      rw [appendAll, appendOrDrop_of_full (not_lt.mp hroom), ih c _ (k := 0) (by simp; omega)]
      simp [Memory.writeRun]

/-! ### The commands past their guard -/

/-- The address byte of a transmit (20 R76). -/
theorem addressByte_write (a : Addr7) : addressByte a false = BitVec.ofNat 8 (2 * a.toNat) := by
  revert a
  decide

/-- The target is ARG0[6:0] (30 R92). -/
theorem argTarget_toNat (s : State) : (argTarget s).toNat = s.tc.cmd.arg0.toNat % 128 := by
  simp [argTarget]

theorem writeRefused_of_empty (hm : s.tc.cfg.mode = .master) (h : s.tc.buf.txlen = 0) : writeRefused s = true := by
  simp [writeRefused, hm, h]

theorem writeRefused_of_begun (h : s.tc.cfg.mode = .slave ∨ s.tc.buf.txlen ≠ 0) : writeRefused s = false := by
  rcases h with h | h <;> simp [writeRefused, h]

/-- Before any BEGIN_WRITE both appending commands are refused in master mode (42 R161, R162). -/
theorem exec_of_writeRefused {i : Instr} (hi : i = .writeByte ∨ ∃ n, i = .writeBytes n)
    (hbusy : s.tc.cmd.busy = false) (ha : masterActive s = false) (h : writeRefused s = true) :
    exec i s = .next (setResult 0 s) := by
  rcases hi with rfl | ⟨n, rfl⟩ <;> simp [exec, execWriteByte, execWriteBytes, gated_accept hbusy ha, h]

theorem exec_writeByte_of_begun (hbusy : s.tc.cmd.busy = false) (ha : masterActive s = false)
    (h : writeRefused s = false) {c : Nat} {t : State} (hone : appendOrDrop (argByte s) 0 s = (c, t)) :
    exec .writeByte s = .next (setResult (BitVec.ofNat 32 c) t) := by
  simp [exec, execWriteByte, gated_accept hbusy ha, h, hone]

theorem exec_writeBytes_of_begun {n : Nat} (hbusy : s.tc.cmd.busy = false) (ha : masterActive s = false)
    (h : writeRefused s = false) {c : Nat} {t : State} (hall : appendAll (argBytes s.tc.cmd.arg0 n) 0 s = (c, t)) :
    exec (.writeBytes n) s = .next (setResult (BitVec.ofNat 32 c) t) := by
  simp [exec, execWriteBytes, gated_accept hbusy ha, h, hall]

/-! ### The refused starts (42 R164, 43 R192) -/

theorem startTx_of_empty {stop b : Bool} {w : Word} (h : s.tc.buf.txlen = 0) : startTx stop b w s = setResult 0 s :=
  if_pos h

theorem startRx_of_none {stop b : Bool} {w : Word} (h : s.tc.cmd.arg1 = 0) : startRx stop b w s = setResult 0 s :=
  if_pos h

/-- A buffer overflow has the error code 1 (46 R280). -/
theorem startRx_of_over {stop b : Bool} {w : Word} (h : s.par.rxCap < s.tc.cmd.arg1.toNat) :
    startRx stop b w s = setResult 1 { s with tc.xfer.status := .bufferOverflow } := by
  have hpos : s.tc.cmd.arg1 ≠ 0 := fun h0 => by simp [h0] at h
  rw [startRx, if_neg hpos, if_pos h]
  simp [errCode, isDone, statusDone]

end

end Sys2Proof.Machine
end

section
open Sys2Proof Sys2Proof.Machine

/-- Settles O14: the bytes that fit are a run of writes from the end of the buffer, and their count is the result. -/
theorem writeBytesEffect : Obligations.WriteBytesEffect := by
  refine ⟨fun n s h => exec_of_commandRejected (by simpa [commandRejected] using h), fun n s _ _ hbusy ha =>
    ⟨fun hm hlen => exec_of_writeRefused (.inr ⟨n, rfl⟩) hbusy ha (writeRefused_of_empty hm hlen),
      fun hbegun => ?appends⟩⟩
  case appends =>
    intro k
    have hk : k = min (argBytes s.tc.cmd.arg0 n).length (s.par.txCap - s.tc.buf.txlen) := by simp [k]
    have hle : k ≤ n := min_le_left _ _
    have hlength : ((argBytes s.tc.cmd.arg0 n).take k).length = k := by simpa using hle
    refine ⟨s.tc.buf.txbuf.writeRun s.tc.buf.txlen ((argBytes s.tc.cmd.arg0 n).take k), ?_, fun j hj => ?_, ?_⟩
    · rw [exec_writeBytes_of_begun hbusy ha (writeRefused_of_begun hbegun) (appendAll_eq _ 0 s hk)]
      simp [setResult]
    · rw [read_writeRun _ _ _ (hj.trans_eq hlength.symm)]
      simp [argBytes, argByteAt]
    · simpa only [hlength] using
        sameCellsBut_writeRun ((argBytes s.tc.cmd.arg0 n).take k) s.tc.buf.txbuf s.tc.buf.txlen

/-- Settles O12: the guard rejects, or the address byte goes to cell 0. -/
theorem beginWriteEffect : Obligations.BeginWriteEffect := by
  refine fun s => ⟨fun h => exec_of_commandRejected (by simpa [commandRejected, or_assoc] using h),
    fun hbusy hm ha => ?_⟩
  rw [exec, execBeginWrite, gated_accept hbusy (by simp [hm, ha]), beginWriteApply, addressByte_write, argTarget_toNat]
  rfl

/-- Settles O13: the guard rejects, an empty buffer refuses, and the byte is appended or dropped. -/
theorem writeByteEffect : Obligations.WriteByteEffect := by
  refine ⟨fun s h => exec_of_commandRejected (by simpa [commandRejected] using h), fun s hbusy ha =>
    ⟨fun hm hlen => exec_of_writeRefused (.inl rfl) hbusy ha (writeRefused_of_empty hm hlen),
      fun hbegun hroom => ?room, fun hfull => ?full⟩⟩
  case room => exact exec_writeByte_of_begun hbusy ha (writeRefused_of_begun hbegun) (appendOrDrop_of_room hroom)
  case full =>
    have hlen : s.tc.buf.txlen ≠ 0 := (Nat.lt_of_lt_of_le (Nat.succ_pos _) hfull).ne'
    exact exec_writeByte_of_begun hbusy ha (writeRefused_of_begun (.inr hlen)) (appendOrDrop_of_full hfull)

/-- Settles O15: past the common guard, each start answers by its length test. -/
theorem refusedTransferStarts : Obligations.RefusedTransferStarts := by
  intro s stop d hbusy hm ha
  simp only [exec, execEndWrite, execSendWrite, execRead, execSendRead, gated_startRejects_accept hbusy hm ha]
  refine ⟨fun h => ?transmit, fun h => ?noBytes, fun h => ?overCapacity⟩
  case transmit => simp only [startTx_of_empty h]; exact ⟨rfl, rfl⟩
  case noBytes => simp only [startRx_of_none h]; exact ⟨rfl, rfl⟩
  case overCapacity => simp only [startRx_of_over h]; exact ⟨rfl, rfl⟩
end

section
/-!
SUPPORT. The transmit completion step: its guard, its checks in order, and the STOP of each of its ends
(42_master_tx.md R169 to R177).
-/

namespace Sys2Proof.Machine

section
variable {s : State} {arbl rxak : Bool}

/-! ### Finalize and the successful end (42 R174, R175) -/

/-- What Finalize does where no command waits for the transfer. -/
theorem finalize_of_no_waiter (h : ¬(s.tc.cmd.busy = true ∧ (s.tc.cmd.op = .xfer ∨ s.tc.cmd.op = .await))) :
    finalize s =
      { dmaShutdown s with tc.xfer.dmaPhase := .off, tc.xfer.toFlag := false, tc.xfer.inflightNak := false } :=
  if_neg (by simpa using h)

/-- The error code depends on the status and on `ovf` (46 R280). -/
theorem errCode_congr {t : State} (hst : t.tc.xfer.status = s.tc.xfer.status) (hovf : t.tc.xfer.ovf = s.tc.xfer.ovf) :
    errCode t = errCode s := by
  simp [errCode, isDone, hst, hovf]

/-- What Finalize does where a command waits for the transfer: it completes with the error code. -/
theorem finalize_of_waiter (h : s.tc.cmd.busy = true ∧ (s.tc.cmd.op = .xfer ∨ s.tc.cmd.op = .await)) :
    finalize s =
      completeCmd (errCode s)
        { dmaShutdown s with tc.xfer.dmaPhase := .off, tc.xfer.toFlag := false, tc.xfer.inflightNak := false } :=
  (if_pos (by simpa using h)).trans (congrArg (completeCmd · _) (errCode_congr (by simp) (by simp)))

/-- What a success does: the STOP if asked for, and the event outside the Immediate strategy. -/
theorem endSuccess_eq (ev : HostEv) (s : State) :
    let s1 : State := { s with tc.xfer.status := .waiting }
    let s2 : State := if s.tc.xfer.stopReq then { emit .stop s1 with tc.xfer.masterHeld := false } else s1
    endSuccess ev s = finalize (if s.tc.xfer.eff = .immediate then s2 else raiseEv ev s2) := by
  cases hstop : s.tc.xfer.stopReq <;> cases heff : s.tc.xfer.eff <;> simp [endSuccess, isrClass, hstop, heff]

/-! ### The step (42 R169, R170) -/

theorem pendingTc_eq_some : pendingTc s = some (arbl, rxak) ↔ s.tc.port.lev = some (.tc arbl rxak) := by
  unfold pendingTc
  rcases s.tc.port.lev with _ | (_ | _ | _ | _ | _ | _) <;> simp

theorem pendingTc_isSome : (pendingTc s).isSome = true ↔ ∃ a n, s.tc.port.lev = some (.tc a n) := by
  simp [Option.isSome_iff_exists, pendingTc_eq_some]

theorem canTxDone_iff :
    canTxDone s = true ↔
      s.tc.xfer.status = .sending ∧ (∃ a n, s.tc.port.lev = some (.tc a n)) ∧ s.tc.xfer.dmaPhase ≠ .bulk ∧
        transferClass s = true := by
  simp [canTxDone, pendingTc_isSome, and_assoc]

/-- The event is consumed, and the checks are made on it. -/
theorem fireTxDone_eq (h : s.tc.port.lev = some (.tc arbl rxak)) :
    fireTxDone s = txCompletion arbl rxak { s with tc.port.lev := none } := by
  simp [fireTxDone, pendingTc_eq_some.mpr h]

theorem txCompletion_of_arbLost : txCompletion true rxak s = .next (endArbLost s) := rfl

theorem txCompletion_of_toFlag (h : s.tc.xfer.toFlag = true) :
    txCompletion false rxak s = .next (endWithStop .timeout s) := by
  simp [txCompletion, txTimeoutEnd, h]

theorem txCompletion_of_nak (h : s.tc.xfer.toFlag = false) : txCompletion false true s = .next (txNak s) := by
  simp [txCompletion, h]

theorem txCompletion_of_more (h : s.tc.xfer.toFlag = false) (hlen : s.tc.buf.txidx + 1 < s.tc.buf.txlen) :
    txCompletion false false s = txNext s := by
  simp [txCompletion, h, hlen]

theorem txCompletion_of_last (h : s.tc.xfer.toFlag = false) (hlen : s.tc.buf.txlen ≤ s.tc.buf.txidx + 1) :
    txCompletion false false s = .next (endSuccess .mtxDone s) := by
  simp [txCompletion, txLast, h, hlen]

/-- Byte 1 was the last one the TC gives before the DMA agent takes over (42 R173). -/
theorem txNext_of_bulk (h : s.tc.xfer.dmaPhase = .addr ∧ s.tc.buf.txidx = 1) : txNext s = .next (dmaTxEnterBulk s) :=
  if_pos h

theorem txNext_of_byte (h : ¬(s.tc.xfer.dmaPhase = .addr ∧ s.tc.buf.txidx = 1)) {b : Byte}
    (hb : s.tc.buf.txbuf.read (s.tc.buf.txidx + 1) = some b) :
    txNext s = .next (emit (.write b) { s with tc.buf.txidx := s.tc.buf.txidx + 1 }) := by
  simp [txNext, h, readTx, hb]

/-! ### The STOP of an end (42 R176) -/

/-- The transmit of `s` ends in `t`: one STOP, but none after arbitration loss or a success with `stop_req = 0`, and the
bus stays held only after such a success. -/
def EndsWithOneStop (s t : State) : Prop :=
  ∃ l, t.tc.link.sent = s.tc.link.sent ++ l ∧
    l.count .stop =
      (if t.tc.xfer.status = .arbitrationLost ∨ (t.tc.xfer.status = .waiting ∧ s.tc.xfer.stopReq = false)
        then 0 else 1) ∧
    (t.tc.xfer.masterHeld = true → t.tc.xfer.status = .waiting ∧ s.tc.xfer.stopReq = false) ∧
    (t.tc.xfer.status = .waiting → s.tc.xfer.stopReq = false → t.tc.xfer.masterHeld = s.tc.xfer.masterHeld)

@[simp] theorem count_stop_shutdownCmds (ph : DmaPhase) : (shutdownCmds ph).count .stop = 0 :=
  List.count_eq_zero.mpr (not_mem_shutdownCmds rfl)

theorem endsWithOneStop_endArbLost (s : State) : EndsWithOneStop s (endArbLost s) :=
  ⟨_, endArbLost_sent s, by simp [endArbLost_xfer]⟩

theorem endsWithOneStop_endWithStop {st : Status} (ha : st ≠ .arbitrationLost) (hw : st ≠ .waiting) (s : State) :
    EndsWithOneStop s (endWithStop st s) :=
  ⟨_, endWithStop_sent st s, by simp [endWithStop_xfer, ha, hw]⟩

theorem endsWithOneStop_endSuccess (ev : HostEv) (s : State) : EndsWithOneStop s (endSuccess ev s) := by
  refine ⟨_, endSuccess_sent ev s, ?_⟩
  cases h : s.tc.xfer.stopReq <;> simp [endSuccess_xfer, h]

/-- The next byte and the entry into Bulk leave the transfer active. -/
theorem txNext_status (s : State) : Yields (fun t => t.tc.xfer.status = s.tc.xfer.status) (txNext s) := by
  unfold txNext
  split <;> simp [dmaTxEnterBulk]

/-- The step goes on sending, or it ends the transmit. -/
theorem txCompletion_cases (arbl rxak : Bool) (s : State) :
    Yields (fun t => t.tc.xfer.status = s.tc.xfer.status ∨ EndsWithOneStop s t) (txCompletion arbl rxak s) := by
  unfold txCompletion
  split_ifs
  · exact yields_next.mpr (.inr (endsWithOneStop_endArbLost s))
  · exact yields_next.mpr (.inr (endsWithOneStop_endWithStop (by decide) (by decide) s))
  · unfold txNak
    split
    · exact yields_next.mpr (.inr (endsWithOneStop_endWithStop (by decide) (by decide) (errinc .addrNak s)))
    · exact yields_next.mpr (.inr (endsWithOneStop_endWithStop (by decide) (by decide) (errinc .dataNak s)))
  · exact fun t ht => .inl (txNext_status s t ht)
  · exact yields_next.mpr (.inr (endsWithOneStop_endSuccess .mtxDone s))

end

end Sys2Proof.Machine
end

section
open Sys2Proof Sys2Proof.Machine

/-- Settles O41: the channel is shut down, the flags are reset, and a waiting command completes. -/
theorem finalizeEffect : Obligations.FinalizeEffect :=
  fun _ => ⟨finalize_of_waiter, finalize_of_no_waiter⟩

/-- Settles O40: one case for each outcome of the checks. -/
theorem transmitCompletion : Obligations.TransmitCompletion := by
  refine fun s => ⟨canTxDone_iff, ?_⟩
  intro arbl rxak hen hlev s1 stopped
  have hfire : stepRule .txDone s = txCompletion arbl rxak s1 :=
    (if_pos hen).trans (fireTxDone_eq hlev)
  rw [hfire]
  refine ⟨fun ha => ?arbLost, fun ha hto => ?timeout, fun ha hto hnak => ?nak, fun ha hto hnak hmore => ?next,
    fun ha hto hnak hlast => ?last⟩
  all_goals subst ha
  case arbLost => exact txCompletion_of_arbLost
  case timeout => exact txCompletion_of_toFlag hto
  case nak =>
    subst hnak
    rw [txCompletion_of_nak (s := s1) hto]
    exact ⟨fun h0 => congrArg Host.Outcome.next (if_pos h0), fun hi => congrArg Host.Outcome.next (if_neg hi)⟩
  all_goals subst hnak
  case next =>
    rw [txCompletion_of_more (s := s1) hto hmore]
    exact ⟨txNext_of_bulk (s := s1), fun hbyte b hb => txNext_of_byte (s := s1) hbyte hb⟩
  case last =>
    exact (txCompletion_of_last (s := s1) hto hlast).trans (congrArg Host.Outcome.next (endSuccess_eq .mtxDone s1))

/-- Settles O45: the step goes on sending, or its end issues the STOP. -/
theorem stopAtTransmitEnd : Obligations.StopAtTransmitEnd := by
  intro s t h hend
  rcases stepRule_cases .txDone s with ⟨hen, hfire⟩ | ⟨-, href⟩
  · obtain ⟨hst, ⟨arbl, rxak, hlev⟩, -, -⟩ := canTxDone_iff.mp hen
    have hstep : txCompletion arbl rxak { s with tc.port.lev := none } = .next t :=
      (fireTxDone_eq hlev).symm.trans (hfire.symm.trans h)
    rcases txCompletion_cases arbl rxak _ t hstep with hsame | hends
    · have hactive : masterActive t = true := by simp [masterActive, hsame, hst, statusMasterActive]
      simp [hactive] at hend
    · exact hends
  · rw [href] at h
    cases h
end

section
/-!
SUPPORT. The receive completion steps: their guards, and each outcome of their checks; AWAIT's wait and the timeout
(43_master_rx.md R195 to R201).
-/

namespace Sys2Proof.Machine

section
variable {s : State} {arbl rxak : Bool} {d : Byte}

/-! ### The address-phase completion (43 R199) -/

theorem canAddrDone_iff :
    canAddrDone s = true ↔
      s.tc.xfer.status = .sendAddr ∧ (∃ a n, s.tc.port.lev = some (.tc a n)) ∧ transferClass s = true := by
  simp [canAddrDone, pendingTc_isSome, and_assoc]

theorem fireAddrDone_of_arbLost (h : s.tc.port.lev = some (.tc true rxak)) :
    fireAddrDone s = .next (endArbLost { s with tc.port.lev := none }) := by
  simp [fireAddrDone, pendingTc_eq_some.mpr h]

theorem fireAddrDone_of_nak (h : s.tc.port.lev = some (.tc false true)) :
    fireAddrDone s = .next (addrNaked { s with tc.port.lev := none }) := by
  simp [fireAddrDone, pendingTc_eq_some.mpr h]

theorem fireAddrDone_of_ack (h : s.tc.port.lev = some (.tc false false)) :
    fireAddrDone s = .next (addrAcked { s with tc.port.lev := none }) := by
  simp [fireAddrDone, pendingTc_eq_some.mpr h]

theorem addrNaked_of_toFlag (h : s.tc.xfer.toFlag = true) : addrNaked s = endWithStop .timeout s := if_pos h

theorem addrNaked_of_no_toFlag (h : s.tc.xfer.toFlag = false) :
    addrNaked s = endWithStop .addrNak (errinc .addrNak s) := by
  simp [addrNaked, h]

/-- A timeout closes the DMA phase and takes one byte with NAK. -/
theorem addrAcked_of_toFlag (h : s.tc.xfer.toFlag = true) :
    addrAcked s = issueRecv true { dmaShutdown s with tc.xfer.dmaPhase := .off, tc.xfer.status := .receiving } :=
  if_pos h

theorem addrAcked_of_bulk (h : s.tc.xfer.toFlag = false) (hph : s.tc.xfer.dmaPhase = .addr) :
    addrAcked s = dmaRxEnterBulk s := by
  simp [addrAcked, h, hph]

theorem addrAcked_of_byte (h : s.tc.xfer.toFlag = false) (hph : s.tc.xfer.dmaPhase ≠ .addr) :
    addrAcked s = issueRecv (decide (s.tc.buf.rxreq = 1)) { s with tc.xfer.status := .receiving } := by
  simp [addrAcked, h, hph, beq_eq_decide]

/-! ### The receive completion (43 R200, R201) -/

theorem pendingRc_eq_some : pendingRc s = some (arbl, d) ↔ s.tc.port.lev = some (.rc arbl d) := by
  unfold pendingRc
  rcases s.tc.port.lev with _ | (_ | _ | _ | _ | _ | _) <;> simp

theorem pendingRc_isSome : (pendingRc s).isSome = true ↔ ∃ a b, s.tc.port.lev = some (.rc a b) := by
  simp [Option.isSome_iff_exists, pendingRc_eq_some]

theorem canRxByte_iff :
    canRxByte s = true ↔
      s.tc.xfer.status = .receiving ∧ (∃ a b, s.tc.port.lev = some (.rc a b)) ∧ s.tc.xfer.inflightNak = false ∧
        s.tc.xfer.dmaPhase = .off ∧ transferClass s = true := by
  simp [canRxByte, pendingRc_isSome, and_assoc]

theorem canRxFinal_iff :
    canRxFinal s = true ↔
      s.tc.xfer.status = .receiving ∧ (∃ a b, s.tc.port.lev = some (.rc a b)) ∧ s.tc.xfer.inflightNak = true ∧
        (s.tc.xfer.dmaPhase = .off ∨ s.tc.xfer.dmaPhase = .last) ∧ transferClass s = true := by
  simp [canRxFinal, pendingRc_isSome, and_assoc]

/-- The event is consumed and its byte is the last one in the receive buffer. -/
def receiveByte (d : Byte) (s : State) : State :=
  { s with
    tc.port.lev := none
    tc.buf.rxbuf := s.tc.buf.rxbuf.write s.tc.buf.rxlen d
    tc.buf.rxlen := s.tc.buf.rxlen + 1 }

/-- With room in the buffer the byte is stored. -/
theorem storeRx_of_room (hroom : s.tc.buf.rxlen < s.par.rxCap) (k : State → Result) :
    storeRx d { s with tc.port.lev := none } k = k (receiveByte d s) :=
  if_pos hroom

theorem fireRxByte_of_arbLost (h : s.tc.port.lev = some (.rc true d)) :
    fireRxByte s = .next (endArbLost { s with tc.port.lev := none }) := by
  simp [fireRxByte, pendingRc_eq_some.mpr h]

/-- The receive after a stored byte takes the last one with NAK, and after a timeout the next one. -/
theorem fireRxByte_of_byte (h : s.tc.port.lev = some (.rc false d)) (hroom : s.tc.buf.rxlen < s.par.rxCap) :
    fireRxByte s =
      .next (issueRecv
        (decide (s.tc.buf.rxlen + 1 = s.tc.buf.rxreq.toNat - 1 ∧ 1 ≤ s.tc.buf.rxreq.toNat) || s.tc.xfer.toFlag)
        (receiveByte d s)) := by
  have hlast : (s.tc.buf.rxlen + 1 + 1 == s.tc.buf.rxreq.toNat) =
      decide (s.tc.buf.rxlen + 1 = s.tc.buf.rxreq.toNat - 1 ∧ 1 ≤ s.tc.buf.rxreq.toNat) := by
    rw [beq_eq_decide]
    exact decide_eq_decide.mpr (by omega)
  simp only [fireRxByte, pendingRc_eq_some.mpr h, storeRx_of_room hroom, ← hlast]
  rfl

theorem fireRxFinal_of_arbLost (h : s.tc.port.lev = some (.rc true d)) :
    fireRxFinal s = .next (endArbLost { s with tc.port.lev := none }) := by
  simp [fireRxFinal, pendingRc_eq_some.mpr h]

theorem fireRxFinal_of_toFlag (h : s.tc.port.lev = some (.rc false d)) (hroom : s.tc.buf.rxlen < s.par.rxCap)
    (hto : s.tc.xfer.toFlag = true) : fireRxFinal s = .next (endWithStop .timeout (receiveByte d s)) := by
  simp [fireRxFinal, pendingRc_eq_some.mpr h, storeRx_of_room hroom, receiveByte, hto]

theorem fireRxFinal_of_success (h : s.tc.port.lev = some (.rc false d)) (hroom : s.tc.buf.rxlen < s.par.rxCap)
    (hto : s.tc.xfer.toFlag = false) : fireRxFinal s = .next (endSuccess .mrxDone (receiveByte d s)) := by
  simp [fireRxFinal, pendingRc_eq_some.mpr h, storeRx_of_room hroom, receiveByte, hto]

/-! ### AWAIT and the timeout (43 R195, R196) -/

theorem exec_await_of_rest (hbusy : s.tc.cmd.busy = false) (h : masterActive s = false) (b : Bool) :
    exec (.await b) s = .next (setResult (errCode s) s) := by
  simp [exec, execAwait, gated_accept hbusy, h]

theorem exec_await_of_active (hbusy : s.tc.cmd.busy = false) (h : masterActive s = true) (b : Bool) :
    exec (.await b) s =
      .next
        { s with
          tc.cmd.busy := true
          tc.cmd.op := .await
          tc.cmd.t0 := s.nowUs
          tc.cmd.budget := argBudget b s
          tc.xfer.toApplied := false } := by
  simp [exec, execAwait, gated_accept hbusy, h]

theorem masterActive_iff : masterActive s = true ↔ s.tc.xfer.status ∈ [.sending, .sendAddr, .receiving] := by
  simp [masterActive, statusMasterActive, or_assoc]

theorem expired_iff :
    expired s = true ↔ s.tc.cmd.budget ≠ 0 ∧ s.tc.cmd.budget.toNat ≤ (s.nowUs - s.tc.cmd.t0).toNat := by
  simp [expired, elapsed, BitVec.le_def]

theorem canTimeout_iff :
    canTimeout s = true ↔
      s.tc.cmd.busy = true ∧ (s.tc.cmd.op = .xfer ∨ s.tc.cmd.op = .await) ∧
        s.tc.xfer.status ∈ [.sending, .sendAddr, .receiving] ∧ s.tc.cmd.budget ≠ 0 ∧
        s.tc.cmd.budget.toNat ≤ (s.nowUs - s.tc.cmd.t0).toNat ∧ s.tc.xfer.toApplied = false := by
  simp only [canTimeout, Bool.and_eq_true, Bool.or_eq_true, beq_iff_eq, Bool.not_eq_true', masterActive_iff,
    expired_iff, and_assoc]

end

end Sys2Proof.Machine
end

section
open Sys2Proof Sys2Proof.Machine

/-- Settles O43: one case for each outcome of the checks on the address byte. -/
theorem addressPhaseCompletion : Obligations.AddressPhaseCompletion := by
  refine fun s => ⟨canAddrDone_iff, ?_⟩
  intro arbl rxak hen hlev s1 stopped
  have hfire : stepRule .addrDone s = fireAddrDone s := if_pos hen
  rw [hfire]
  refine ⟨fun ha => ?arbLost, fun ha hnak => ?nak, fun ha hack hto => ?forcedNak, fun ha hack hto => ?receives⟩
  all_goals subst ha
  case arbLost => exact fireAddrDone_of_arbLost hlev
  all_goals subst rxak
  case nak =>
    rw [fireAddrDone_of_nak hlev]
    exact ⟨fun hto => congrArg Host.Outcome.next (addrNaked_of_toFlag hto),
      fun hto => congrArg Host.Outcome.next (addrNaked_of_no_toFlag hto)⟩
  all_goals rw [fireAddrDone_of_ack hlev]
  case forcedNak => exact congrArg Host.Outcome.next (addrAcked_of_toFlag (s := s1) hto)
  case receives =>
    exact ⟨fun hph => congrArg Host.Outcome.next (addrAcked_of_bulk (s := s1) hto hph),
      fun hph => congrArg Host.Outcome.next (addrAcked_of_byte (s := s1) hto hph)⟩

/-- Settles O44: a byte is lost or stored, and the stored one is followed by the next receive or by the end. -/
theorem receiveCompletion : Obligations.ReceiveCompletion := by
  refine fun s => ⟨canRxByte_iff, canRxFinal_iff, ?_⟩
  intro arbl d hlev hroom s1 lost stored
  refine ⟨fun hen => ?notLast, fun hen => ?last⟩
  case notLast =>
    have hfire : stepRule .rxByte s = fireRxByte s := if_pos hen
    rw [hfire]
    refine ⟨fun ha => ?_, fun ha => ?_⟩ <;> subst ha
    · exact fireRxByte_of_arbLost hlev
    · exact fireRxByte_of_byte hlev hroom
  case last =>
    have hfire : stepRule .rxFinal s = fireRxFinal s := if_pos hen
    rw [hfire]
    refine ⟨fun ha => ?_, fun ha hto => ?_, fun ha hto => ?_⟩ <;> subst ha
    · exact fireRxFinal_of_arbLost hlev
    · exact fireRxFinal_of_toFlag hlev hroom hto
    · exact (fireRxFinal_of_success hlev hroom hto).trans
        (congrArg Host.Outcome.next (endSuccess_eq .mrxDone (receiveByte d s)))

/-- Settles O18: AWAIT's guard accepts, and its two cases are those of an active transfer. -/
theorem awaitEffect : Obligations.AwaitEffect :=
  fun d _ hbusy => ⟨fun h => exec_await_of_rest hbusy h d, fun h => exec_await_of_active hbusy h d⟩

/-- Settles O39: `due` is the guard of the step, which arms the flag and counts. -/
theorem timeoutApplication : Obligations.TimeoutApplication :=
  fun _ => ⟨fun hdue => if_pos (canTimeout_iff.mpr hdue), fun hnot => if_neg (mt canTimeout_iff.mp hnot)⟩
end

section
/-!
SUPPORT. The DMA events of the hand-off: when each of their rules is enabled, and what each outcome of its checks does
(44_dma_handoff.md R225 to R228).
-/

namespace Sys2Proof.Machine

section
variable {s : State}

/-! ### The error completion (44 R225) -/

theorem bulkErrorOf_eq_lost {ev : LinkEv} :
    bulkErrorOf ev = some true ↔ (∃ n, ev = .tc true n) ∨ ∃ d, ev = .rc true d := by
  cases ev with
  | tc arbl rxak => cases arbl <;> simp [bulkErrorOf]
  | rc arbl d => cases arbl <;> simp [bulkErrorOf]
  | _ => simp [bulkErrorOf]

theorem bulkErrorOf_eq_nak {ev : LinkEv} : bulkErrorOf ev = some false ↔ ev = .tc false true := by
  cases ev with
  | tc arbl rxak => cases arbl <;> simp [bulkErrorOf]
  | _ => simp [bulkErrorOf]

/-- The completion that waits lost the arbitration. -/
theorem pendingBulkError_lost :
    pendingBulkError s = some true ↔
      (∃ n, s.tc.port.lev = some (.tc true n)) ∨ ∃ d, s.tc.port.lev = some (.rc true d) := by
  cases h : s.tc.port.lev <;> simp [pendingBulkError, h, bulkErrorOf_eq_lost]

/-- The completion that waits was NAK'd. -/
theorem pendingBulkError_nak : pendingBulkError s = some false ↔ s.tc.port.lev = some (.tc false true) := by
  cases h : s.tc.port.lev <;> simp [pendingBulkError, h, bulkErrorOf_eq_nak]

/-- 60 R297. -/
theorem grant_iff : grant s = true ↔ s.hostPrio < s.tc.cfg.irqPrio := decide_eq_true_iff

theorem canBulkError_iff :
    canBulkError s = true ↔
      s.hostPrio < s.tc.cfg.irqPrio ∧ s.tc.xfer.dmaPhase = .bulk ∧
        s.tc.xfer.status ∈ [.sending, .sendAddr, .receiving] ∧
        (((∃ n, s.tc.port.lev = some (.tc true n)) ∨ ∃ d, s.tc.port.lev = some (.rc true d)) ∨
          s.tc.port.lev = some (.tc false true)) := by
  rw [← pendingBulkError_lost, ← pendingBulkError_nak, or_comm, ← Bool.exists_bool (p := (pendingBulkError s = some ·)),
    ← Option.isSome_iff_exists]
  simp only [canBulkError, Bool.and_eq_true, beq_iff_eq, grant_iff, masterActive_iff, and_assoc]

theorem fireBulkError_of_lost (h : pendingBulkError s = some true) :
    fireBulkError s = .next (endArbLost { s with tc.port.lev := none }) :=
  if_pos h

theorem fireBulkError_of_timeout (h : pendingBulkError s = some false) (hto : s.tc.xfer.toFlag = true) :
    fireBulkError s = .next (endWithStop .timeout { s with tc.port.lev := none }) := by
  simp [fireBulkError, h, hto]

theorem fireBulkError_of_nak (h : pendingBulkError s = some false) (hto : s.tc.xfer.toFlag = false) :
    fireBulkError s = .next (endWithStop .dataNak (errinc .dataNak { s with tc.port.lev := none })) := by
  simp [fireBulkError, h, hto]

/-! ### DMA_DONE, DMA_ERR and the stale events (44 R226 to R228) -/

theorem canDmaDone_iff :
    canDmaDone s = true ↔
      s.hostPrio < s.tc.cfg.irqPrio ∧ s.tc.xfer.dmaPhase = .bulk ∧ s.tc.port.dev = some .done := by
  simp [canDmaDone, grant_iff, and_assoc]

theorem canDmaError_iff :
    canDmaError s = true ↔
      s.hostPrio < s.tc.cfg.irqPrio ∧ s.tc.xfer.dmaPhase ≠ .off ∧ s.tc.port.dev = some .err := by
  simp [canDmaError, grant_iff, and_assoc]

theorem canDmaStale_iff :
    canDmaStale s = true ↔
      s.hostPrio < s.tc.cfg.irqPrio ∧
        ((s.tc.port.dev ≠ none ∧ s.tc.xfer.dmaPhase = .off) ∨
          (s.tc.port.dev = some .done ∧ (s.tc.xfer.dmaPhase = .addr ∨ s.tc.xfer.dmaPhase = .last))) := by
  simp [canDmaStale, grant_iff, Option.isSome_iff_ne_none]

/-- The channel is disabled, and `txidx` is that of the last byte the agent gave. -/
theorem fireDmaDone_tx (hk : s.tc.cmd.kind = .tx) :
    fireDmaDone s =
      .next { emit .dmaDisable { s with tc.port.dev := none } with
        tc.xfer.dmaPhase := .last, tc.buf.txidx := s.tc.buf.txlen - 2 } := by
  simp [fireDmaDone, hk]

/-- The channel is disabled, and the last byte is taken with NAK. -/
theorem fireDmaDone_rx (hk : s.tc.cmd.kind = .rx) :
    fireDmaDone s =
      .next (emit (.recv true) { emit .dmaDisable { s with tc.port.dev := none } with
        tc.xfer.dmaPhase := .last, tc.xfer.inflightNak := true }) := by
  simp [fireDmaDone, hk]

theorem fireDmaError_of_lost (h : s.tc.port.linkArbl = true) :
    fireDmaError s = .next (endArbLost { s with tc.port.dev := none }) :=
  if_pos h

theorem fireDmaError_of_kept (h : s.tc.port.linkArbl = false) :
    fireDmaError s = .next (endWithStop .dmaError (errinc .dmaErr { s with tc.port.dev := none })) := by
  simp [fireDmaError, h]

end

end Sys2Proof.Machine
end

section
open Sys2Proof Sys2Proof.Machine

/-- Settles O47: the guard of each rule, and one case for each outcome of its checks. -/
theorem dmaEvents : Obligations.DmaEvents := by
  intro s
  refine ⟨canBulkError_iff, canDmaDone_iff, canDmaError_iff, canDmaStale_iff, ?_⟩
  intro lost stopped noLev noDev
  have hstep {r : Rule} (hen : ruleEnabled r s = true) : stepRule r s = fireRule r s := if_pos hen
  refine ⟨fun hen => ?bulkError, fun hen => ?dmaDone, fun hen => ?dmaError, hstep⟩
  all_goals rw [hstep hen]
  case bulkError =>
    exact ⟨fun hlost => fireBulkError_of_lost (pendingBulkError_lost.mpr hlost),
      fun hnak hto => fireBulkError_of_timeout (pendingBulkError_nak.mpr hnak) hto,
      fun hnak hto => fireBulkError_of_nak (pendingBulkError_nak.mpr hnak) hto⟩
  case dmaDone => exact ⟨fireDmaDone_tx, fireDmaDone_rx⟩
  case dmaError => exact ⟨fireDmaError_of_lost, fireDmaError_of_kept⟩
end

section
/-!
SUPPORT. The DMA agent: when it has a step, and what each step and each completion routed to it does
(44_dma_handoff.md R221).
-/

namespace Sys2Proof.Machine

section
variable {s : State}

/-- Item 1. -/
theorem canTxElement_iff :
    canTxElement s = true ↔
      s.tc.dma.enabled = true ∧ s.tc.dma.dir = .tx ∧ s.tc.dma.ready = true ∧ s.tc.dma.next ≤ s.tc.dma.last := by
  simp [canTxElement, and_assoc]

/-- Item 2. -/
theorem canRxIssue_iff :
    canRxIssue s = true ↔
      s.tc.dma.enabled = true ∧ s.tc.dma.dir = .rx ∧ s.tc.dma.ready = true ∧ s.tc.dma.pending = false ∧
        s.tc.dma.next ≤ s.tc.dma.last := by
  simp [canRxIssue, and_assoc]

theorem dmaAgent_of_disabled (h : s.tc.dma.enabled = false) (d : DmaStep) :
    dmaAgent d s = .refused (.outsideContract .noDmaStep) := by
  have htx : canTxElement s = false := by simp [canTxElement, h]
  have hrx : canRxIssue s = false := by simp [canRxIssue, h]
  cases d <;> simp [dmaAgent, htx, hrx]

/-- The element is written, and DMA_DONE is placed after the last one. -/
theorem dmaAgent_txElement {b : Byte} (hcan : canTxElement s = true) (hdev : s.tc.port.dev = none)
    (hb : s.tc.buf.txbuf.read s.tc.dma.next = some b) :
    dmaAgent .txElement s = .next
      { emit (.write b) s with
        tc.dma.next := s.tc.dma.next + 1
        tc.dma.ready := false
        tc.port.dev := if s.tc.dma.next = s.tc.dma.last then some .done else s.tc.port.dev } := by
  obtain ⟨-, -, -, hle⟩ := canTxElement_iff.mp hcan
  have hempty : s.tc.port.dev.isSome = false := by simp [hdev]
  have hlast : s.tc.dma.last < s.tc.dma.next + 1 ↔ s.tc.dma.next = s.tc.dma.last := by omega
  by_cases heq : s.tc.dma.next = s.tc.dma.last
  · simp [dmaAgent, hcan, hempty, readTx, hb, hlast, if_pos heq]
  · simp [dmaAgent, hcan, hempty, readTx, hb, hlast, heq]

theorem dmaAgent_rxIssue (hcan : canRxIssue s = true) :
    dmaAgent .rxIssue s = .next { emit (.recv false) s with tc.dma.ready := false, tc.dma.pending := true } := by
  simp [dmaAgent, hcan]

/-- The error step comes at a boundary: where an element could be sent or a byte asked for (item 4). -/
theorem dmaAgent_error (hcan : canTxElement s = true ∨ canRxIssue s = true) (hdev : s.tc.port.dev = none) :
    dmaAgent .error s = .next { s with tc.port.dev := some .err, tc.dma.enabled := false } := by
  rcases hcan with hcan | hcan <;> simp [dmaAgent, hcan, hdev]

/-- The byte is stored, and the next element is made ready or DMA_DONE is placed (item 3). -/
theorem dmaTakeByte_of_room {d : Byte} (hle : s.tc.dma.next ≤ s.tc.dma.last) (hnext : s.tc.dma.next < s.par.rxCap)
    (hroom : s.tc.buf.rxlen < s.par.rxCap) (hdev : s.tc.port.dev = none) :
    dmaTakeByte d s = .next
      { s with
        tc.buf.rxbuf := s.tc.buf.rxbuf.write s.tc.dma.next d
        tc.buf.rxlen := s.tc.buf.rxlen + 1
        tc.dma.next := s.tc.dma.next + 1
        tc.dma.pending := false
        tc.dma.ready := if s.tc.dma.next = s.tc.dma.last then s.tc.dma.ready else true
        tc.port.dev := if s.tc.dma.next = s.tc.dma.last then some .done else s.tc.port.dev } := by
  have hempty : s.tc.port.dev.isSome = false := by simp [hdev]
  have hlast : s.tc.dma.last < s.tc.dma.next + 1 ↔ s.tc.dma.next = s.tc.dma.last := by omega
  by_cases heq : s.tc.dma.next = s.tc.dma.last
  · simp [dmaTakeByte, not_le.mpr hnext, not_le.mpr hroom, hempty, hlast, if_pos heq]
  · simp [dmaTakeByte, not_le.mpr hnext, not_le.mpr hroom, hlast, heq]

end

end Sys2Proof.Machine
end

section
open Sys2Proof Sys2Proof.Machine

/-- Settles O48: the hypotheses of each clause are the guard of a step of the agent, or what routes a completion to
it. -/
theorem dmaAgentSteps : Obligations.DmaAgentSteps := by
  refine fun s => ⟨dmaAgent_of_disabled, ?txElement, ?rxIssue, ?errorTx, ?errorRx, ?cleanTc, ?cleanRc⟩
  case txElement =>
    exact fun b hen hdir hready hle hdev hb =>
      dmaAgent_txElement (canTxElement_iff.mpr ⟨hen, hdir, hready, hle⟩) hdev hb
  case rxIssue =>
    exact fun hen hdir hready hpend hle => dmaAgent_rxIssue (canRxIssue_iff.mpr ⟨hen, hdir, hready, hpend, hle⟩)
  case errorTx =>
    exact fun hen hdir hready hle hdev => dmaAgent_error (.inl (canTxElement_iff.mpr ⟨hen, hdir, hready, hle⟩)) hdev
  case errorRx =>
    exact fun hen hdir hready hpend hle hdev =>
      dmaAgent_error (.inr (canRxIssue_iff.mpr ⟨hen, hdir, hready, hpend, hle⟩)) hdev
  case cleanTc =>
    intro rest hp hi hen hdir hle
    have hroute : routesTc s = true := routesTc_iff.mpr ⟨hen, hdir, hle⟩
    exact (deliver_tc_eq_next_iff hp).mpr ⟨rest, hi, by rw [if_pos ⟨rfl, rfl, hroute⟩]⟩
  case cleanRc =>
    intro d rest hp hi hen hdir hpend hle hnext hroom hdev
    have hroute : routesRc s = true := routesRc_iff.mpr ⟨hen, hdir, hpend⟩
    exact (deliver_rc_eq_next_iff hp).mpr
      ⟨rest, hi, by rw [if_pos ⟨rfl, hroute⟩]; exact dmaTakeByte_of_room hle hnext hroom hdev⟩
end

section
/-!
SUPPORT. What a rule and a command can do to `dma_phase` (44_dma_handoff.md R231).
-/

namespace Sys2Proof.Machine

section
variable {s t : State}

/-! ### Ends of a transfer close the phase (42 R175) -/

@[simp] theorem endArbLost_dmaPhase (s : State) : (endArbLost s).tc.xfer.dmaPhase = .off := by simp [endArbLost_xfer]

@[simp] theorem endWithStop_dmaPhase (st : Status) (s : State) : (endWithStop st s).tc.xfer.dmaPhase = .off := by
  simp [endWithStop_xfer]

@[simp] theorem endSuccess_dmaPhase (ev : HostEv) (s : State) : (endSuccess ev s).tc.xfer.dmaPhase = .off := by
  simp [endSuccess_xfer]

@[simp] theorem startTransfer_dmaPhase (k : Kind) (len : Nat) (b : Bool) (w : Word) (s : State) :
    (startTransfer k len b w s).tc.xfer.dmaPhase = s.tc.xfer.dmaPhase := rfl

/-! ### Rules -/

/-- The phase of `t` is that of `s`, or it is closed. -/
def PhaseKeptOrOff (s t : State) : Prop :=
  t.tc.xfer.dmaPhase = s.tc.xfer.dmaPhase ∨ t.tc.xfer.dmaPhase = .off

@[simp] theorem phaseKeptOrOff_iff :
    PhaseKeptOrOff s t ↔ t.tc.xfer.dmaPhase = s.tc.xfer.dmaPhase ∨ t.tc.xfer.dmaPhase = .off := Iff.rfl

/-- The transfer goes from its address phase to Bulk, with no timeout armed (44 R224). -/
def EntersBulk (s t : State) : Prop :=
  s.tc.xfer.dmaPhase = .addr ∧ t.tc.xfer.dmaPhase = .bulk ∧ s.tc.xfer.toFlag = false

/-- A launch opens the address phase of a DMA transfer, and leaves the phase of any other alone (44 R222, R223). -/
theorem launch_dmaPhase (s : State) :
    Yields (fun t => t.tc.xfer.dmaPhase = s.tc.xfer.dmaPhase ∨ (t.tc.xfer.dmaPhase = .addr ∧ s.tc.xfer.eff = .dma))
      (launch s) := by
  unfold launch
  rw [yields_mapNext]
  split
  · simp only [txLaunch, yields_readTx, yields_next]
    intro b _
    unfold afterLaunch
    split_ifs <;> simp [dmaTxSetup, *]
  · simp only [rxLaunch, yields_next]
    unfold afterLaunch
    split_ifs <;> simp [dmaRxSetup, *]

/-- The poll launches the transfer on the bus it takes, or fails and leaves the transfer alone (41 R145 to R147). -/
theorem fireAcquire_dmaPhase (s : State) :
    Yields (fun t => t.tc.xfer.dmaPhase = s.tc.xfer.dmaPhase ∨ (t.tc.xfer.dmaPhase = .addr ∧ s.tc.xfer.eff = .dma))
      (fireAcquire s) := by
  unfold fireAcquire
  split_ifs
  · simpa using launch_dmaPhase (emit .rstart s)
  · simpa using launch_dmaPhase { emit .start s with tc.xfer.masterHeld := true }
  · rw [yields_next]
    unfold acqFail acqGiveUp
    split <;> simp

theorem txCompletion_dmaPhase (arbl rxak : Bool) (s : State) :
    Yields (fun t => PhaseKeptOrOff s t ∨ EntersBulk s t) (txCompletion arbl rxak s) := by
  unfold txCompletion
  split_ifs with _ hto
  · simp
  · simp [txTimeoutEnd]
  · unfold txNak
    split <;> simp
  · unfold txNext
    split
    · next hbulk => exact yields_next.mpr (.inr ⟨hbulk.1, by simp [dmaTxEnterBulk], by simpa using hto⟩)
    · simp
  · simp [txLast]

theorem addrAcked_dmaPhase (s : State) : PhaseKeptOrOff s (addrAcked s) ∨ EntersBulk s (addrAcked s) := by
  unfold addrAcked
  split_ifs with hto hph
  · simp [issueRecv]
  · exact .inr ⟨hph, by simp [dmaRxEnterBulk], by simpa using hto⟩
  · simp [issueRecv]

theorem fireAddrDone_dmaPhase (s : State) :
    Yields (fun t => PhaseKeptOrOff s t ∨ EntersBulk s t) (fireAddrDone s) := by
  unfold fireAddrDone
  split
  · simp only [yields_ite, yields_next]
    refine ⟨fun _ => by simp, fun _ => ⟨fun _ => ?_, fun _ => addrAcked_dmaPhase { s with tc.port.lev := none }⟩⟩
    unfold addrNaked
    split <;> simp
  · simp

theorem fireDmaDone_dmaPhase (s : State) : Yields (fun t => t.tc.xfer.dmaPhase = .last) (fireDmaDone s) := by
  unfold fireDmaDone
  simp only []
  split <;> simp

theorem endRecovery_dmaPhase (s : State) : PhaseKeptOrOff s (endRecovery s) := by
  unfold endRecovery
  simp only []
  split <;> simp [recoveryCleanup]

/-- The rules that move the phase are the poll, the two completions that can enter Bulk, and DMA_DONE. -/
theorem fireRule_dmaPhase {r : Rule} (hr : r ∉ [.acquire, .txDone, .addrDone, .dmaDone]) :
    Yields (PhaseKeptOrOff s) (fireRule r s) := by
  cases r with
  | acquire | txDone | addrDone | dmaDone => simp at hr
  | recover =>
    simp only [fireRule, fireRecover]
    split
    · rw [yields_ite]
      exact ⟨fun _ => yields_next.mpr (endRecovery_dmaPhase s), fun _ => by simp⟩
    all_goals simp
  | timeout => simp [fireRule, fireTimeout]
  | rxByte =>
    simp only [fireRule, fireRxByte]
    split <;> simp [issueRecv]
  | rxFinal =>
    simp only [fireRule, fireRxFinal]
    split <;> simp
  | bulkError => simp [fireRule, fireBulkError]
  | dmaError => simp [fireRule, fireDmaError]
  | dmaStale => simp [fireRule, fireDmaStale]
  | boundary => simp [fireRule, fireBoundary]
  | dispatch =>
    simp only [fireRule, fireDispatch, slaveSetup, slaveTxSetup, slaveRxSetup]
    split
    · split_ifs <;> simp
    · simp
  | slaveRx =>
    simp only [fireRule, fireSlaveRx]
    split <;> simp
  | slaveTx =>
    simp only [fireRule, fireSlaveTx]
    split <;> simp
  | stopDetect => simp [fireRule, fireStopDetect, slaveRxEnd]
  | sdaEdge => simp [fireRule, fireSdaEdge, slaveRxEnd]
  | unexpected => simp [fireRule, fireUnexpected]

/-- A step by a rule is the effect of the rule under its guard (00 R9). -/
theorem stepRule_eq_next {r : Rule} (h : stepRule r s = .next t) :
    ruleEnabled r s = true ∧ fireRule r s = .next t := by
  rcases stepRule_cases r s with ⟨hen, he⟩ | ⟨-, he⟩ <;> rw [he] at h
  · exact ⟨hen, h⟩
  · cases h

/-- While an acquisition is under way no master transfer is active, so no phase is open (41 R140, 44 R231). -/
theorem dmaPhase_off_of_acquire {p : Params} {c : Tc} (hI : TcInv p c) (h : TransferInv c) (ho : c.cmd.op = .acq) :
    c.xfer.dmaPhase = .off := by
  obtain ⟨hoff, -⟩ := h.at_rest (hI.acquireIdle (.inl ho))
  exact hoff

/-! ### Commands -/

theorem FillsTx.dmaPhase {lo hi : Nat} (hf : FillsTx lo hi s t) : t.tc.xfer.dmaPhase = s.tc.xfer.dmaPhase := by
  obtain ⟨m, n, o, rfl⟩ := hf.eq
  rfl

theorem startTx_dmaPhase {stop b : Bool} {w : Word} : (startTx stop b w s).tc.xfer.dmaPhase = s.tc.xfer.dmaPhase := by
  unfold startTx
  split <;> simp

theorem startRx_dmaPhase {stop b : Bool} {w : Word} : (startRx stop b w s).tc.xfer.dmaPhase = s.tc.xfer.dmaPhase := by
  unfold startRx
  simp only []
  split_ifs <;> simp

theorem execConfigure_dmaPhase (s : State) : Yields (PhaseKeptOrOff s) (execConfigure s) := by
  refine yields_gated (.inl rfl) fun _ _ => ?_
  split
  · simp
  · split <;> simp [configureApply, beginContext]

theorem exec_dmaPhase {i : Instr} (hi : i ≠ .configure) :
    Yields (fun t => t.tc.xfer.dmaPhase = s.tc.xfer.dmaPhase) (exec i s) := by
  have accepted {g : Bool} {body : State → State} (hb : (body s).tc.xfer.dmaPhase = s.tc.xfer.dmaPhase) :
      Yields (fun t => t.tc.xfer.dmaPhase = s.tc.xfer.dmaPhase) (gated g body s) := yields_gated rfl fun _ _ => hb
  cases i with
  | configure => exact absurd rfl hi
  | setStrategy =>
    simp only [exec, execSetStrategy]
    refine accepted ?_
    split
    · rfl
    · split <;> rfl
  | setRate =>
    simp only [exec, execSetRate]
    refine accepted ?_
    split <;> simp
  | beginWrite => exact accepted rfl
  | writeByte =>
    simp only [exec, execWriteByte]
    refine accepted ?_
    split
    · rfl
    · exact (appendOrDrop_fills (argByte s) 0 s).1.dmaPhase
  | writeBytes n =>
    simp only [exec, execWriteBytes]
    refine accepted ?_
    split
    · rfl
    · exact (appendAll_fills (argBytes s.tc.cmd.arg0 n) 0 s).dmaPhase
  | endWrite stop d => exact accepted startTx_dmaPhase
  | sendWrite stop => exact accepted startTx_dmaPhase
  | read stop d => exact accepted startRx_dmaPhase
  | sendRead stop => exact accepted startRx_dmaPhase
  | await d =>
    simp only [exec, execAwait]
    refine accepted ?_
    split <;> rfl
  | slaveRelease =>
    simp only [exec, execSlaveRelease]
    split <;> simp
  | resetBus =>
    simp only [exec, execResetBus]
    exact accepted (by simp)
  | resetErrcnt =>
    simp only [exec, execResetErrcnt]
    split <;> simp
  | eoi => simp [exec, execEoi]

end

end Sys2Proof.Machine
end

section
open Sys2Proof Sys2Proof.Machine

/-- Settles O49: the rules that move the phase move it as their effects say, and the launch finds it Off. -/
theorem dmaPhaseTransitions : Obligations.DmaPhaseTransitions := by
  refine ⟨fun r s t hI hT h => ?rules, fun i s t h => ?commands⟩
  case rules =>
    obtain ⟨hen, hfire⟩ := stepRule_eq_next h
    cases r with
    | acquire =>
      obtain ⟨-, hop, -, -⟩ := canAcquire_iff.mp hen
      have hoff := dmaPhase_off_of_acquire hI hT hop
      rcases fireAcquire_dmaPhase s t hfire with hsame | ⟨haddr, heff⟩
      · exact .inl hsame
      · exact .inr (.inr (.inl ⟨hoff, haddr, rfl, heff⟩))
    | txDone =>
      obtain ⟨-, ⟨arbl, rxak, hlev⟩, -, -⟩ := canTxDone_iff.mp hen
      have hstep := (fireTxDone_eq hlev).symm.trans hfire
      rcases txCompletion_dmaPhase arbl rxak _ t hstep with hrest | ⟨haddr, hbulk, hto⟩
      · exact hrest.imp_right .inl
      · exact .inr (.inr (.inr (.inl ⟨haddr, hbulk, .inl rfl, hto⟩)))
    | addrDone =>
      rcases fireAddrDone_dmaPhase s t hfire with hrest | ⟨haddr, hbulk, hto⟩
      · exact hrest.imp_right .inl
      · exact .inr (.inr (.inr (.inl ⟨haddr, hbulk, .inr rfl, hto⟩)))
    | dmaDone =>
      obtain ⟨-, hbulk, -⟩ := canDmaDone_iff.mp hen
      exact .inr (.inr (.inr (.inr ⟨hbulk, fireDmaDone_dmaPhase s t hfire, rfl⟩)))
    | _ => exact (fireRule_dmaPhase (by simp) t hfire).imp_right .inl
  case commands =>
    by_cases hi : i = .configure
    · subst hi
      exact (execConfigure_dmaPhase s t h).imp_right (⟨rfl, ·⟩)
    · exact .inl (exec_dmaPhase hi t h)
end

section
/-!
SUPPORT. The slave dispatcher: when each of its rules is enabled, and what each outcome of its checks does
(45_slave.md R243 to R253).
-/

namespace Sys2Proof.Machine

section
variable {s : State}

/-! ### Guards -/

/-- 45 R243, 60 R297. -/
theorem slaveClass_iff : slaveClass s = true ↔ s.hostPrio < s.tc.cfg.irqPrio ∧ s.tc.slave.hold = .none := by
  simp [slaveClass, grant_iff]

theorem pendingAddr_isSome : (pendingAddr s).isSome = true ↔ ∃ a rw, s.tc.port.lev = some (.addr a rw) := by
  simp [Option.isSome_iff_exists, pendingAddr_eq_some]

theorem pendingSrx_eq_some {d : Byte} : pendingSrx s = some d ↔ s.tc.port.lev = some (.srx d) := by
  unfold pendingSrx
  rcases s.tc.port.lev with _ | (_ | _ | _ | _ | _ | _) <;> simp

theorem pendingSrx_isSome : (pendingSrx s).isSome = true ↔ ∃ d, s.tc.port.lev = some (.srx d) := by
  simp [Option.isSome_iff_exists, pendingSrx_eq_some]

theorem pendingStx_eq_some {ack : Bool} : pendingStx s = some ack ↔ s.tc.port.lev = some (.stx ack) := by
  unfold pendingStx
  rcases s.tc.port.lev with _ | (_ | _ | _ | _ | _ | _) <;> simp

theorem pendingStx_isSome : (pendingStx s).isSome = true ↔ ∃ ack, s.tc.port.lev = some (.stx ack) := by
  simp [Option.isSome_iff_exists, pendingStx_eq_some]

/-- 45 R253, case by case of the event that waits. -/
theorem isUnexpected_iff :
    isUnexpected s = true ↔
      ((∃ d, s.tc.port.lev = some (.srx d)) ∧ s.tc.xfer.status ≠ .slaveRx) ∨
      ((∃ ack, s.tc.port.lev = some (.stx ack)) ∧ s.tc.xfer.status ≠ .slaveTx) ∨
      (((∃ a n, s.tc.port.lev = some (.tc a n)) ∨ (∃ a d, s.tc.port.lev = some (.rc a d))) ∧
        s.tc.xfer.status ∉ [.sending, .sendAddr, .receiving]) := by
  rw [← masterActive_iff, Bool.not_eq_true]
  unfold isUnexpected
  rcases s.tc.port.lev with _ | (_ | _ | _ | _ | _ | _) <;> simp

theorem canBoundary_iff :
    canBoundary s = true ↔
      (s.hostPrio < s.tc.cfg.irqPrio ∧ s.tc.slave.hold = .none) ∧
        (∃ a rw, s.tc.port.lev = some (.addr a rw)) ∧ s.tc.xfer.status = .slaveRx ∧
        s.tc.slave.boundaryDone = false := by
  simp [canBoundary, slaveClass_iff, pendingAddr_isSome, and_assoc]

theorem canDispatch_iff :
    canDispatch s = true ↔
      (s.hostPrio < s.tc.cfg.irqPrio ∧ s.tc.slave.hold = .none) ∧
        (∃ a rw, s.tc.port.lev = some (.addr a rw)) ∧
        (s.tc.xfer.status ≠ .slaveRx ∨ s.tc.slave.boundaryDone = true) := by
  simp [canDispatch, slaveClass_iff, pendingAddr_isSome, and_assoc]

theorem canSlaveRx_iff :
    canSlaveRx s = true ↔
      (s.hostPrio < s.tc.cfg.irqPrio ∧ s.tc.slave.hold = .none) ∧ (∃ d, s.tc.port.lev = some (.srx d)) ∧
        s.tc.xfer.status = .slaveRx := by
  simp [canSlaveRx, slaveClass_iff, pendingSrx_isSome, and_assoc]

theorem canSlaveTx_iff :
    canSlaveTx s = true ↔
      (s.hostPrio < s.tc.cfg.irqPrio ∧ s.tc.slave.hold = .none) ∧ (∃ ack, s.tc.port.lev = some (.stx ack)) ∧
        s.tc.xfer.status = .slaveTx := by
  simp only [canSlaveTx, Bool.and_eq_true, beq_iff_eq, slaveClass_iff, pendingStx_isSome, and_assoc]

theorem canStopDetect_iff :
    canStopDetect s = true ↔
      (s.hostPrio < s.tc.cfg.irqPrio ∧ s.tc.slave.hold = .none) ∧ s.tc.port.lev = some .stopf := by
  simp [canStopDetect, slaveClass_iff]

theorem canSdaEdge_iff :
    canSdaEdge s = true ↔
      (s.hostPrio < s.tc.cfg.irqPrio ∧ s.tc.slave.hold = .none) ∧ s.tc.port.sdaRise = true := by
  simp [canSdaEdge, slaveClass_iff]

theorem canUnexpected_iff :
    canUnexpected s = true ↔
      (s.hostPrio < s.tc.cfg.irqPrio ∧ s.tc.slave.hold = .none) ∧ isUnexpected s = true := by
  simp [canUnexpected, slaveClass_iff]

/-! ### The ends of a receive phase (45 R243, R244, R251) -/

/-- The bit of EV_SRX_DONE (60 R294). -/
theorem evEnabled_srxDone (s : State) : evEnabled .srxDone s = s.tc.cfg.irqEn.getLsbD 0 := by
  have hbit : ∀ w : BitVec 5, (w &&& eventMask .srxDone != 0) = w.getLsbD 0 := by decide
  exact hbit _

/-- The bit of EV_SREQ (60 R294). -/
theorem evEnabled_sreq (s : State) : evEnabled .sreq s = s.tc.cfg.irqEn.getLsbD 1 := by
  have hbit : ∀ w : BitVec 5, (w &&& eventMask .sreq != 0) = w.getLsbD 1 := by decide
  exact hbit _

/-- The event is raised, and the hold is taken if it is enabled. -/
theorem raiseSrxDone_of_free (h : s.tc.slave.hold = .none) :
    raiseSrxDone s =
      { raiseEv .srxDone s with tc.slave.hold := if s.tc.cfg.irqEn.getLsbD 0 then .srx else .none } := by
  unfold raiseSrxDone
  simp only [evEnabled_srxDone, raiseEv_cfg]
  split
  · rfl
  · rw [← h]
    rfl

theorem fireBoundary_eq (h : s.tc.slave.hold = .none) :
    fireBoundary s = .next
      { raiseEv .srxDone s with
        tc.slave.srxCount := BitVec.ofNat 32 s.tc.buf.rxlen
        tc.slave.boundaryDone := true
        tc.slave.watchArmed := false
        tc.slave.hold := if s.tc.cfg.irqEn.getLsbD 0 then .srx else .none
        tc.port.sdaRise := false } :=
  congrArg Host.Outcome.next (raiseSrxDone_of_free h)

theorem slaveRxEnd_eq (h : s.tc.slave.hold = .none) :
    slaveRxEnd s =
      { raiseEv .srxDone s with
        tc.slave.srxCount := BitVec.ofNat 32 s.tc.buf.rxlen
        tc.xfer.status := .waiting
        tc.slave.watchArmed := false
        tc.slave.hold := if s.tc.cfg.irqEn.getLsbD 0 then .srx else .none
        tc.port.sdaRise := false } :=
  raiseSrxDone_of_free h

/-! ### The set-up of a phase (45 R246, R247) -/

/-- With a stop flag the edge watch is not needed. -/
theorem slaveRxSetup_of_stopFlag (h : s.par.hasStopf = true) :
    slaveRxSetup s = { s with tc.xfer.status := .slaveRx, tc.buf.rxlen := 0, tc.buf.rxidx := 0 } :=
  if_pos h

theorem slaveRxSetup_of_no_stopFlag (h : s.par.hasStopf = false) :
    slaveRxSetup s =
      { s with
        tc.xfer.status := .slaveRx, tc.buf.rxlen := 0, tc.buf.rxidx := 0,
        tc.slave.watchArmed := true, tc.slave.spuriousCnt := 0, tc.port.sdaRise := false } :=
  if_neg (by simp [h])

/-- The host is asked for the first byte, and the phase waits for it. -/
theorem slaveTxSetup_of_enabled (h : s.tc.cfg.irqEn.getLsbD 1 = true) :
    slaveTxSetup s =
      { raiseEv .sreq
          { s with tc.xfer.status := .slaveTx, tc.buf.txlen := 0, tc.buf.txidx := 0, tc.xfer.ovf := false } with
        tc.slave.hold := .sreq } :=
  if_pos ((evEnabled_sreq _).trans h)

/-- Nobody is asked, and the first byte is 0. -/
theorem slaveTxSetup_of_disabled (h : s.tc.cfg.irqEn.getLsbD 1 = false) :
    slaveTxSetup s =
      emit (.write 0)
        (raiseEv .sreq
          { s with tc.xfer.status := .slaveTx, tc.buf.txlen := 0, tc.buf.txidx := 0, tc.xfer.ovf := false }) :=
  if_neg (by simpa [evEnabled_sreq] using h)

/-! ### Bytes (45 R248 to R250) -/

theorem fireSlaveRx_of_room {d : Byte} (hlev : s.tc.port.lev = some (.srx d)) (h : s.tc.buf.rxlen < s.par.rxCap) :
    fireSlaveRx s = .next
      { s with
        tc.port.lev := none
        tc.buf.rxbuf := s.tc.buf.rxbuf.write s.tc.buf.rxlen d
        tc.buf.rxlen := s.tc.buf.rxlen + 1 } := by
  simp [fireSlaveRx, pendingSrx_eq_some.mpr hlev, storeRx, h]

/-- At capacity the byte is dropped. -/
theorem fireSlaveRx_of_full {d : Byte} (hlev : s.tc.port.lev = some (.srx d)) (h : s.par.rxCap ≤ s.tc.buf.rxlen) :
    fireSlaveRx s = .next { s with tc.port.lev := none } := by
  simp [fireSlaveRx, pendingSrx_eq_some.mpr hlev, not_lt.mpr h]

theorem sendOrZero_of_byte {i : Nat} {b : Byte} (h : i < s.tc.buf.txlen) (hb : s.tc.buf.txbuf.read i = some b) :
    sendOrZero i s = .next (emit (.write b) s) := by
  simp [sendOrZero, h, readTx, hb]

/-- A cell below `txlen` that holds no value stops the model (10 R35). -/
theorem sendOrZero_of_unwritten {i : Nat} (h : i < s.tc.buf.txlen) (hb : s.tc.buf.txbuf.read i = none) :
    sendOrZero i s = .fault (.unwrittenCell .tx i) := by
  simp [sendOrZero, h, readTx, hb]

theorem sendOrZero_past_end {i : Nat} (h : s.tc.buf.txlen ≤ i) : sendOrZero i s = .next (emit (.write 0) s) :=
  if_neg (not_lt.mpr h)

/-- The release of an SREQ hold gives the first byte. -/
theorem exec_slaveRelease_of_sreq (h : s.tc.slave.hold = .sreq) :
    exec .slaveRelease s = sendOrZero 0 { s with tc.slave.hold := .none, tc.buf.txidx := 0 } := by
  simp [exec, execSlaveRelease, h]

/-- After an ACK the next byte is given, the index staying at the end. -/
theorem fireSlaveTx_of_ack (hlev : s.tc.port.lev = some (.stx true)) :
    fireSlaveTx s =
      sendOrZero (min (s.tc.buf.txidx + 1) s.tc.buf.txlen)
        { s with tc.port.lev := none, tc.buf.txidx := min (s.tc.buf.txidx + 1) s.tc.buf.txlen } := by
  simp [fireSlaveTx, pendingStx_eq_some.mpr hlev]

/-- A NAK ends the phase. -/
theorem fireSlaveTx_of_nak (hlev : s.tc.port.lev = some (.stx false)) :
    fireSlaveTx s = .next { s with tc.port.lev := none, tc.xfer.status := .waiting } := by
  simp [fireSlaveTx, pendingStx_eq_some.mpr hlev]

/-! ### Stops and edges (45 R251, R252) -/

theorem fireStopDetect_of_slaveRx (h : s.tc.xfer.status = .slaveRx) :
    fireStopDetect s = .next (slaveRxEnd { s with tc.port.lev := none }) :=
  if_pos h

theorem fireStopDetect_of_slaveTx (h : s.tc.xfer.status = .slaveTx) :
    fireStopDetect s = .next { s with tc.port.lev := none, tc.xfer.status := .waiting } := by
  simp [fireStopDetect, h]

/-- A stop outside a slave phase is consumed. -/
theorem fireStopDetect_of_other (hrx : s.tc.xfer.status ≠ .slaveRx) (htx : s.tc.xfer.status ≠ .slaveTx) :
    fireStopDetect s = .next { s with tc.port.lev := none } := by
  simp [fireStopDetect, hrx, htx]

theorem fireSdaEdge_of_unwatched (h : s.tc.slave.watchArmed = false) :
    fireSdaEdge s = .next { s with tc.port.sdaRise := false } := by
  simp [fireSdaEdge, h]

/-- An edge that leaves the bus idle was a STOP. -/
theorem fireSdaEdge_of_idle (hw : s.tc.slave.watchArmed = true) (hbus : s.tc.port.linkBusy = false) :
    fireSdaEdge s = .next (slaveRxEnd { s with tc.port.sdaRise := false }) := by
  simp [fireSdaEdge, hw, hbus]

/-- An edge on a busy bus is counted, and the watch is torn down at the limit. -/
theorem fireSdaEdge_of_busy (hw : s.tc.slave.watchArmed = true) (hbus : s.tc.port.linkBusy = true) :
    fireSdaEdge s = .next
      { s with
        tc.port.sdaRise := false
        tc.slave.spuriousCnt := s.tc.slave.spuriousCnt + 1
        tc.slave.watchArmed := decide ((s.tc.slave.spuriousCnt + 1).toNat < s.par.edgeLimit) } := by
  by_cases hlimit : (s.tc.slave.spuriousCnt + 1#32).toNat < s.par.edgeLimit
  · simp [fireSdaEdge, hw, hbus, hlimit, not_le.mpr hlimit, -BitVec.toNat_add]
  · simp [fireSdaEdge, hw, hbus, hlimit, not_lt.mp hlimit, -BitVec.toNat_add]

/-! ### Holds (45 R243) -/

/-- The rules of 45_slave.md. -/
def slaveRules : List Rule := [.boundary, .dispatch, .slaveRx, .slaveTx, .stopDetect, .sdaEdge, .unexpected]

/-- The guard of a slave rule contains that there is no hold (45 R243). -/
theorem hold_none_of_slaveRule {r : Rule} (hr : r ∈ slaveRules) (h : ruleEnabled r s = true) :
    s.tc.slave.hold = .none := by
  have hserves : s.hostPrio < s.tc.cfg.irqPrio ∧ s.tc.slave.hold = .none := by
    cases r with
    | boundary => exact (canBoundary_iff.mp h).1
    | dispatch => exact (canDispatch_iff.mp h).1
    | slaveRx => exact (canSlaveRx_iff.mp h).1
    | slaveTx => exact (canSlaveTx_iff.mp h).1
    | stopDetect => exact (canStopDetect_iff.mp h).1
    | sdaEdge => exact (canSdaEdge_iff.mp h).1
    | unexpected => exact (canUnexpected_iff.mp h).1
    | _ => simp [slaveRules] at hr
  exact hserves.2

/-- The link gives the slave side no event during a hold (45 R243). -/
theorem hold_none_of_deliver {t : State} {ev : LinkEv} (hev : isSlaveEvent ev = true)
    (h : deliver ev s = .next t) : s.tc.slave.hold = .none := by
  obtain ⟨-, hkept, -⟩ := linkContractKept
  obtain ⟨-, -, -, -, hslave, -⟩ := hkept ev s t h
  obtain ⟨-, hhold, -⟩ := hslave hev
  exact hhold

/-! ### Slave rules raise no error (45 R254 (c)) -/

variable {t u : State}

/-- No error is counted and the pending bit of EV_ERR is as it was. -/
def RaisesNoError (s t : State) : Prop :=
  t.tc.err = s.tc.err ∧ t.tc.ev.irqPend.getLsbD 4 = s.tc.ev.irqPend.getLsbD 4

theorem RaisesNoError.refl (s : State) : RaisesNoError s s := ⟨rfl, rfl⟩

/-- No event but EV_ERR has bit 4 (60 R294). -/
theorem raiseEv_errBit {e : HostEv} (he : e ≠ .err) (s : State) :
    (raiseEv e s).tc.ev.irqPend.getLsbD 4 = s.tc.ev.irqPend.getLsbD 4 := by
  have hbit : (eventMask e).getLsbD 4 = false := by
    cases e with
    | err => exact absurd rfl he
    | srxDone | sreq | mtxDone | mrxDone => rfl
  simp only [raiseEv_irqPend, BitVec.getLsbD_or, BitVec.getLsbD_and, hbit, Bool.false_and, Bool.or_false]

@[simp] theorem raiseSrxDone_ev (s : State) : (raiseSrxDone s).tc.ev = (raiseEv .srxDone s).tc.ev := by
  unfold raiseSrxDone
  simp only []
  split <;> rfl

theorem RaisesNoError.congr (h : RaisesNoError s t) (herr : u.tc.err = t.tc.err := by simp)
    (hev : u.tc.ev = t.tc.ev := by simp) : RaisesNoError s u := by
  obtain ⟨hcount, hbit⟩ := h
  exact ⟨herr.trans hcount, by rw [hev, hbit]⟩

theorem RaisesNoError.raise {e : HostEv} (h : RaisesNoError s t) (he : e ≠ .err) :
    RaisesNoError s (raiseEv e t) := by
  obtain ⟨hcount, hbit⟩ := h
  exact ⟨hcount, (raiseEv_errBit he t).trans hbit⟩

theorem RaisesNoError.raise_srxDone (h : RaisesNoError s t) : RaisesNoError s (raiseSrxDone t) :=
  (h.raise (e := .srxDone) (by decide)).congr

theorem RaisesNoError.setup (h : RaisesNoError s t) (rw : Bool) : RaisesNoError s (slaveSetup rw t) := by
  have hraise : RaisesNoError s (raiseEv .sreq t) := h.raise (by decide)
  unfold slaveSetup slaveTxSetup slaveRxSetup
  simp only []
  split_ifs
  · exact hraise.congr (hev := rfl)
  · exact hraise.congr (hev := by simp [raiseEv])
  · exact h.congr
  · exact h.congr

/-- A slave rule ends in a raise of EV_SRX_DONE, in the set-up of a phase, or in no raise at all (45 R254 (c)). -/
theorem fireSlaveRule_raisesNoError {r : Rule} (hr : r ∈ slaveRules) (s : State) :
    Yields (RaisesNoError s) (fireRule r s) := by
  have same : RaisesNoError s s := .refl s
  cases r with
  | boundary => exact yields_next.mpr same.congr.raise_srxDone
  | dispatch =>
    simp only [fireRule, fireDispatch]
    split
    · exact yields_next.mpr (same.congr.setup _)
    · simp
  | slaveRx =>
    simp only [fireRule, fireSlaveRx]
    split
    · simp only [yields_ite, yields_storeRx, yields_next]
      exact ⟨fun _ _ => same.congr, fun _ => same.congr⟩
    · simp
  | slaveTx =>
    simp only [fireRule, fireSlaveTx]
    split
    · simp only [yields_ite, yields_sendOrZero, yields_next]
      exact ⟨fun _ => ⟨fun _ _ _ => same.congr, fun _ => same.congr⟩, fun _ => same.congr⟩
    · simp
  | stopDetect =>
    simp only [fireRule, fireStopDetect, yields_ite, yields_next]
    exact ⟨fun _ => same.congr.raise_srxDone, fun _ => ⟨fun _ => same.congr, fun _ => same.congr⟩⟩
  | sdaEdge =>
    simp only [fireRule, fireSdaEdge, yields_ite, yields_next]
    exact ⟨fun _ => same.congr, fun _ => ⟨fun _ => same.congr.raise_srxDone,
      fun _ => ⟨fun _ => same.congr, fun _ => same.congr⟩⟩⟩
  | unexpected => exact yields_next.mpr same.congr
  | _ => simp [slaveRules] at hr

end

end Sys2Proof.Machine
end

section
open Sys2Proof Sys2Proof.Machine

/-- Settles O51: the guards are those of `canBoundary` and `canDispatch`, and the set-up of a phase has one case for
each of the bits it looks at. -/
theorem slaveAddressRules : Obligations.SlaveAddressRules := by
  refine ⟨fun s => ⟨canBoundary_iff, canDispatch_iff⟩, fun s a rw hgrant hhold hlev => ?_⟩
  have hserves : s.hostPrio < s.tc.cfg.irqPrio ∧ s.tc.slave.hold = .none := ⟨hgrant, hhold⟩
  refine ⟨fun hst hdone => ⟨?boundary, ?notYet⟩, fun hready => ⟨?noBoundary, ?dispatch⟩⟩
  case boundary =>
    have hen : ruleEnabled .boundary s = true := canBoundary_iff.mpr ⟨hserves, ⟨a, rw, hlev⟩, hst, hdone⟩
    exact (if_pos hen).trans (fireBoundary_eq hhold)
  case notYet =>
    refine if_neg fun hen => ?_
    obtain ⟨-, -, hready⟩ := canDispatch_iff.mp hen
    simp [hst, hdone] at hready
  case noBoundary =>
    refine if_neg fun hen => ?_
    obtain ⟨-, -, hst, hdone⟩ := canBoundary_iff.mp hen
    simp [hst, hdone] at hready
  case dispatch =>
    intro s1
    have hen : ruleEnabled .dispatch s = true := canDispatch_iff.mpr ⟨hserves, ⟨a, rw, hlev⟩, hready⟩
    have hstep : stepRule .dispatch s = .next (slaveSetup rw s1) := (if_pos hen).trans (fireDispatch_eq hlev)
    rw [hstep]
    refine ⟨fun hrw hflag => ?stopFlag, fun hrw hflag => ?watch,
      fun hrw => ⟨fun hsreq => ?asked, fun hsreq => ?zero⟩⟩
    all_goals subst hrw
    case stopFlag => exact congrArg Host.Outcome.next (slaveRxSetup_of_stopFlag (s := s1) hflag)
    case watch => exact congrArg Host.Outcome.next (slaveRxSetup_of_no_stopFlag (s := s1) hflag)
    case asked => exact congrArg Host.Outcome.next (slaveTxSetup_of_enabled (s := s1) hsreq)
    case zero => exact congrArg Host.Outcome.next (slaveTxSetup_of_disabled (s := s1) hsreq)

/-- Settles O52: the guard of each rule, and one case for each outcome of its checks. -/
theorem slaveDataAndStop : Obligations.SlaveDataAndStop := by
  intro s serves unexpected
  refine ⟨canSlaveRx_iff, canSlaveTx_iff, canStopDetect_iff, canSdaEdge_iff,
    canUnexpected_iff.trans (and_congr_right fun _ => isUnexpected_iff), fun hserves => ?_⟩
  intro noLev ended
  have hstep {r : Rule} (hen : ruleEnabled r s = true) : stepRule r s = fireRule r s := if_pos hen
  have hfree : s.tc.slave.hold = .none := hserves.2
  refine ⟨fun d hlev hst => ?received, fun hlev hst => ?acked, fun hlev hst => ?naked, fun hlev => ?stopped,
    fun hrise => ?edge, fun hunexp => hstep (canUnexpected_iff.mpr ⟨hserves, isUnexpected_iff.mpr hunexp⟩)⟩
  case received =>
    rw [hstep (r := .slaveRx) (canSlaveRx_iff.mpr ⟨hserves, ⟨d, hlev⟩, hst⟩)]
    exact ⟨fireSlaveRx_of_room hlev, fireSlaveRx_of_full hlev⟩
  case acked =>
    intro i
    rw [hstep (r := .slaveTx) (canSlaveTx_iff.mpr ⟨hserves, ⟨true, hlev⟩, hst⟩)]
    simp only [fireRule, fireSlaveTx_of_ack hlev]
    exact ⟨fun b hi hb => sendOrZero_of_byte hi hb, fun hi => sendOrZero_past_end hi⟩
  case naked =>
    rw [hstep (r := .slaveTx) (canSlaveTx_iff.mpr ⟨hserves, ⟨false, hlev⟩, hst⟩)]
    exact fireSlaveTx_of_nak hlev
  case stopped =>
    rw [hstep (r := .stopDetect) (canStopDetect_iff.mpr ⟨hserves, hlev⟩)]
    refine ⟨fun hst => ?_, fireStopDetect_of_slaveTx, fireStopDetect_of_other⟩
    exact (fireStopDetect_of_slaveRx hst).trans (congrArg Host.Outcome.next (slaveRxEnd_eq (s := noLev) hfree))
  case edge =>
    intro quiet
    rw [hstep (r := .sdaEdge) (canSdaEdge_iff.mpr ⟨hserves, hrise⟩)]
    refine ⟨fireSdaEdge_of_unwatched, fun hw hbus => ?_, fireSdaEdge_of_busy⟩
    exact (fireSdaEdge_of_idle hw hbus).trans (congrArg Host.Outcome.next (slaveRxEnd_eq (s := quiet) hfree))

/-- Settles O53: the guard of a slave rule and a delivery to the slave side both need that there is no hold. -/
theorem holdsAndSlaveErrors : Obligations.HoldsAndSlaveErrors := by
  intro r hr
  refine ⟨fun s hhold => ⟨if_neg fun hen => hhold (hold_none_of_slaveRule hr hen), fun ev t hev h =>
    hhold (hold_none_of_deliver hev h)⟩, fun s t h => ?_⟩
  obtain ⟨-, hfire⟩ := stepRule_eq_next h
  exact fireSlaveRule_raisesNoError hr s t hfire

/-- Settles O19: one case for each hold, and for an SREQ hold one for each first byte. -/
theorem slaveReleaseEffect : Obligations.SlaveReleaseEffect := by
  intro s
  refine ⟨fun h => ?free, fun h => ?srx, fun h hempty => ?zero, fun b h hlen hb => ?byte,
    fun h hlen hb => ?unwritten⟩
  case free => simp [exec, execSlaveRelease, h]
  case srx => simp [exec, execSlaveRelease, h]
  all_goals rw [exec_slaveRelease_of_sreq h]
  case zero => exact sendOrZero_past_end hempty.le
  case byte => exact sendOrZero_of_byte hlen hb
  case unwritten => exact sendOrZero_of_unwritten hlen hb
end

section
/-!
SUPPORT. Register accesses: a read and a write by register, the fields of the STATUS, CONFIG and ADDR words, and the pop
and the peek of the receive buffer (46_status_telemetry.md R270 to R277).
-/

namespace Sys2Proof.Machine

section
variable {s : State}

/-! ### Accesses by register (46 R270 to R272) -/

/-- A register whose read has no side effect and reads no buffer cell returns its value (46 R271). -/
theorem hostRead_plain (r : Reg) {v : Word} (hv : regValue r s = v)
    (hr : r ∉ [.rxdata, .rxpeek, .irqClaim] := by decide) :
    hostRead (regOff r) 4 s = .next { s with rdata := some v } := by
  subst hv
  cases r with
  | rxdata | rxpeek | irqClaim => simp at hr
  | errcnt k => cases k <;> rfl
  | _ => rfl

/-- A write of a register but CMD is the register's own write (46 R272). -/
theorem hostWrite_reg (r : Reg) (v : Word) (hr : r ≠ .cmd := by decide) :
    hostWrite (regOff r) 4 v s = .next (writeReg r v s) := by
  cases r with
  | cmd => exact absurd rfl hr
  | errcnt k => cases k <;> rfl
  | _ => rfl

/-- The two sticky bits are cleared by writing 1 (30 R97). -/
theorem writeReg_status (v : Word) :
    writeReg .status v s =
      { s with
        tc.cmd.reject := if v.getLsbD 30 then false else s.tc.cmd.reject
        tc.cmd.illegal := if v.getLsbD 31 then false else s.tc.cmd.illegal } := by
  have hclear (b c : Bool) : (b && !c) = if c then false else b := by cases c <;> simp
  simp only [writeReg, writeStatus, hclear]

/-! ### Receive buffer reads (46 R274, R275) -/

theorem readRx_of_byte {i : Nat} {b : Byte} (h : s.tc.buf.rxbuf.read i = some b) (k : Byte → Result) :
    readRx i s k = k b := by
  simp [readRx, h]

theorem readRx_of_unwritten {i : Nat} (h : s.tc.buf.rxbuf.read i = none) (k : Byte → Result) :
    readRx i s k = .fault (.unwrittenCell .rx i) := by
  simp [readRx, h]

theorem hostRead_rxdata : hostRead 0x44 4 s = readPop s := rfl

theorem hostRead_rxpeek : hostRead 0x48 4 s = readPeek s := rfl

theorem readPop_of_available (h : s.tc.buf.rxidx < s.tc.buf.rxlen) :
    readPop s =
      readRx s.tc.buf.rxidx s fun b =>
        .next { s with tc.buf.rxidx := s.tc.buf.rxidx + 1, rdata := some (BitVec.ofNat 32 b.toNat) } := by
  simp [readPop, returnValue, h]

theorem readPeek_of_available (h : s.tc.buf.rxidx < s.tc.buf.rxlen) :
    readPeek s =
      readRx s.tc.buf.rxidx s fun b => .next { s with rdata := some (BitVec.ofNat 32 b.toNat) } := by
  simp [readPeek, returnValue, h]

theorem readPop_of_none (h : s.tc.buf.rxlen ≤ s.tc.buf.rxidx) :
    readPop s = .next { s with rdata := some 0xFFFFFFFF } := if_neg h.not_gt

theorem readPeek_of_none (h : s.tc.buf.rxlen ≤ s.tc.buf.rxidx) :
    readPeek s = .next { s with rdata := some 0xFFFFFFFF } := if_neg h.not_gt

/-! ### Fields of a register word (30 R97, R98) -/

@[simp] theorem getElem_bitAt (b : Bool) (k : Nat) {i : Nat} (hi : i < 32) :
    (bitAt b k)[i] = (decide (i = k) && b) := by
  rcases lt_trichotomy i k with h | rfl | h
  · simp [bitAt, h, h.ne]
  · simp [bitAt]
  · have hpast : i - k ≠ 0 := by omega
    simp [bitAt, hpast, h.ne']

/-- A field placed at bit `k` is read back there. -/
theorem extractLsb'_placed {w k : Nat} (c : BitVec w) (h : k + w ≤ 32) :
    (c.setWidth 32 <<< k).extractLsb' k w = c := by
  refine BitVec.eq_of_getLsbD_eq fun i hi => ?_
  have hword : k + i < 32 := by omega
  simp [hi, hword]

/-- A field placed at bit `j` leaves the `n` bits from `k` on clear where it has none of them. -/
theorem extractLsb'_placed_apart {w j k n : Nat} (c : BitVec w) (h : j + w ≤ k ∨ k + n ≤ j) :
    (c.setWidth 32 <<< j).extractLsb' k n = 0 := by
  refine BitVec.eq_of_getLsbD_eq fun i hi => ?_
  by_cases hj : k + i < j
  · simp [hj]
  · have hpast : w ≤ k + i - j := by omega
    simp [BitVec.getLsbD_of_ge c _ hpast]

/-- A field at bit 0 leaves the bits past it clear. -/
theorem extractLsb'_low {w k n : Nat} (c : BitVec w) (h : w ≤ k) : (c.setWidth 32).extractLsb' k n = 0 := by
  simpa using extractLsb'_placed_apart (j := 0) (n := n) c (.inl (by simpa using h))

/-! ### The words (46 R270, R271) -/

/-- `done` holds in every status but those of a transfer or a slave phase (10 R33). -/
theorem isDone_eq (s : State) :
    isDone s = decide (s.tc.xfer.status ∉ [.sending, .sendAddr, .receiving, .slaveTx, .slaveRx]) := by
  unfold isDone
  cases s.tc.xfer.status <;> rfl

theorem modeBit_eq (m : Mode) : modeBit m = decide (m = .slave) := by cases m <;> rfl

/-- The fields of STATUS that are wider than a bit, and the bits that are always 0 (46 R270). -/
theorem statusWord_codes (s : State) :
    (statusWord s).extractLsb' 0 4 = statusCode s.tc.xfer.status ∧
    (statusWord s).extractLsb' 7 2 = dmaPhaseCode s.tc.xfer.dmaPhase ∧
    (statusWord s).extractLsb' 13 2 = holdCode s.tc.slave.hold ∧
    (statusWord s).extractLsb' 16 2 = strategyCode s.tc.xfer.eff ∧
    (statusWord s).extractLsb' 19 11 = 0 := by
  have hxstat : ((statusCode s.tc.xfer.status).setWidth 32).extractLsb' 0 4 = statusCode s.tc.xfer.status := by
    simpa using extractLsb'_placed (k := 0) (statusCode s.tc.xfer.status) (by decide)
  simp [statusWord, BitVec.extractLsb'_or, bitAt, extractLsb'_placed, extractLsb'_placed_apart, extractLsb'_low, hxstat]

/-- The flags of STATUS (46 R270). -/
theorem statusWord_flags (s : State) :
    (statusWord s).getLsbD 4 = isDone s ∧ (statusWord s).getLsbD 5 = s.tc.port.linkBusy ∧
    (statusWord s).getLsbD 6 = s.tc.xfer.masterHeld ∧ (statusWord s).getLsbD 9 = s.tc.xfer.ovf ∧
    (statusWord s).getLsbD 10 = s.tc.cmd.busy ∧ (statusWord s).getLsbD 11 = s.tc.xfer.toFlag ∧
    (statusWord s).getLsbD 12 = s.tc.rcv.stuck ∧ (statusWord s).getLsbD 15 = s.tc.slave.watchArmed ∧
    (statusWord s).getLsbD 18 = modeBit s.tc.cfg.mode ∧ (statusWord s).getLsbD 30 = s.tc.cmd.reject ∧
    (statusWord s).getLsbD 31 = s.tc.cmd.illegal := by
  simp [statusWord]

/-- CONFIG: each field weighs what its place says (30 R98). -/
theorem configWord_eq (s : State) :
    configWord s = BitVec.ofNat 32
      ((if s.tc.cfg.mode = .slave then 1 else 0) +
        2 * (match s.tc.cfg.strategy with
          | .immediate => 0
          | .interrupt => 1
          | .dma => 2) +
        8 * s.tc.cfg.autoRetry.toNat + 16 * s.tc.cfg.prioChk.toNat + 32 * s.tc.cfg.rangeEn.toNat +
        64 * s.tc.cfg.dmaAlloc.toNat) := by
  have hfields : ∀ (m a p r d : Bool) (c : BitVec 2),
      bitAt m 0 ||| (c.setWidth 32 <<< 1) ||| bitAt a 3 ||| bitAt p 4 ||| bitAt r 5 ||| bitAt d 6 =
        BitVec.ofNat 32 (m.toNat + 2 * c.toNat + 8 * a.toNat + 16 * p.toNat + 32 * r.toNat + 64 * d.toNat) := by
    decide
  unfold configWord
  cases s.tc.cfg.mode <;> cases s.tc.cfg.strategy <;> exact hfields ..

/-- ADDR: the second address is placed above the first (30 R96). -/
theorem addrWord_eq (s : State) :
    addrWord s = BitVec.ofNat 32 (s.tc.cfg.addr1.toNat + 256 * s.tc.cfg.addr2.toNat) := by
  have h1 := s.tc.cfg.addr1.isLt
  have h2 := s.tc.cfg.addr2.isLt
  have hor := Nat.shiftLeft_add_eq_or_of_lt (i := 8) (b := s.tc.cfg.addr1.toNat) (by omega) s.tc.cfg.addr2.toNat
  rw [Nat.shiftLeft_eq] at hor
  refine BitVec.eq_of_toNat_eq ?_
  simp only [addrWord, BitVec.toNat_or, BitVec.toNat_shiftLeft, BitVec.toNat_setWidth, BitVec.toNat_ofNat,
    Nat.shiftLeft_eq]
  simp (disch := omega) only [Nat.mod_eq_of_lt]
  rw [Nat.or_comm, ← hor]
  omega

end

end Sys2Proof.Machine
end

section
open Sys2Proof Sys2Proof.Machine

/-- Settles O25: STATUS is a word of fields, each read back at its place. -/
theorem statusReadFields : Obligations.StatusReadFields := by
  intro s
  obtain ⟨hxstat, hphase, hhold, heff, hzero⟩ := statusWord_codes s
  obtain ⟨hdone, hbus, hheld, hovf, hbusy, hto, hstuck, hwatch, hmode, hrej, hill⟩ := statusWord_flags s
  exact ⟨_, hostRead_plain .status rfl, hxstat, hdone.trans (isDone_eq s), hbus, hheld, hphase, hovf, hbusy, hto,
    hstuck, hhold, hwatch, heff, hmode.trans (modeBit_eq _), hzero, hrej, hill⟩

/-- Settles O26: a plain register reads as its value; CONFIG, ADDR and RECOVERY are words of fields. -/
theorem plainRegisterReads : Obligations.PlainRegisterReads := by
  intro s returns
  have counters (k : ErrCat) : returns (regOff (.errcnt k)) (errGet k s.tc.err) := by
    cases k <;> exact hostRead_plain (.errcnt _) rfl
  exact ⟨hostRead_plain .arg0 rfl, hostRead_plain .arg1 rfl, hostRead_plain .arg2 rfl, hostRead_plain .result rfl,
    hostRead_plain .errcode rfl, hostRead_plain .config (configWord_eq s), hostRead_plain .addr (addrWord_eq s),
    hostRead_plain .timeoutDefault rfl, hostRead_plain .rate rfl, hostRead_plain .dmaThresh rfl,
    hostRead_plain .irqPrio rfl, hostRead_plain .irqEn rfl, hostRead_plain .irqPend rfl, hostRead_plain .isrDepth rfl,
    hostRead_plain .rxavail rfl, hostRead_plain .rxlen rfl, hostRead_plain .rxreq rfl, hostRead_plain .txlen rfl,
    hostRead_plain .txidx rfl, hostRead_plain .rxaddr rfl, hostRead_plain .srxcount rfl,
    hostRead_plain .recovery (recoveryWord_eq _ _), counters .busReset, counters .timeout, counters .addrNak,
    counters .dataNak, counters .arbLost, counters .acqFail, counters .dmaErr⟩

/-- Settles O27: each write is that of its register; STATUS clears its sticky bits. -/
theorem writableRegisters : Obligations.WritableRegisters := fun v _ =>
  ⟨hostWrite_reg .arg0 v, hostWrite_reg .arg1 v, hostWrite_reg .arg2 v, hostWrite_reg .timeoutDefault v,
    hostWrite_reg .dmaThresh v, hostWrite_reg .irqPrio v, hostWrite_reg .irqEn v, hostWrite_reg .irqPend v,
    (hostWrite_reg .status v).trans (congrArg Host.Outcome.next (writeReg_status v))⟩

/-- Settles O30: RXDATA is the pop and RXPEEK the peek, with a byte available, with none, and with no
value in the cell. -/
theorem receiveBufferReads : Obligations.ReceiveBufferReads := by
  unfold Obligations.ReceiveBufferReads
  simp only [hostRead_rxdata, hostRead_rxpeek]
  refine ⟨fun s b hlt hb => ?available, fun s hle => ⟨readPop_of_none hle, readPeek_of_none hle⟩,
    fun s hlt hnone => ?unwritten⟩
  case available =>
    rw [readPop_of_available hlt, readPeek_of_available hlt, readRx_of_byte hb, readRx_of_byte hb]
    exact ⟨rfl, rfl⟩
  case unwritten =>
    rw [readPop_of_available hlt, readPeek_of_available hlt, readRx_of_unwritten hnone, readRx_of_unwritten hnone]
    exact ⟨rfl, rfl⟩
end

section
/-!
SUPPORT. The public error code and the error counters (46_status_telemetry.md R280 to R285).
-/

namespace Sys2Proof.Machine

section
variable {s : State}

/-! ### The public error code (46 R280) -/

theorem errCode_of_active (h : isDone s = false) : errCode s = 0xFF := by simp [errCode, h]

theorem errCode_of_overflow (hdone : isDone s = true) (h : s.tc.xfer.ovf = true ∨ s.tc.xfer.status = .bufferOverflow) :
    errCode s = 1 := by
  simp [errCode, hdone, h]

/-- Without an overflow the status at rest alone decides. -/
theorem errCode_of_status (hovf : s.tc.xfer.ovf = false) :
    (s.tc.xfer.status = .addrNak → errCode s = 2) ∧
    (s.tc.xfer.status = .dataNak → errCode s = 3) ∧
    (s.tc.xfer.status ∈ [.arbitrationLost, .timeout, .busNotAcquired, .dmaError] → errCode s = 4) ∧
    (s.tc.xfer.status = .waiting → errCode s = 0) := by
  unfold errCode isDone
  cases s.tc.xfer.status <;> simp [hovf, statusDone]

/-! ### The error counters (46 R283, R285) -/

theorem satInc_toNat (c : Word) : (satInc c).toNat = min (2 ^ 32 - 1) (c.toNat + 1) := by
  have hlt := c.isLt
  unfold satInc
  split
  · next h => simp [h]
  · next h =>
    have hbelow : c.toNat ≠ 4294967295 := fun hc => h (BitVec.eq_of_toNat_eq hc)
    have hone : (1 : Word).toNat = 1 := rfl
    rw [BitVec.toNat_add, hone]
    omega

theorem argIndex_eq (s : State) : argIndex s = s.tc.cmd.arg0.toNat % 256 := by
  simp [argIndex]

theorem catOfIndex_eq_some_iff {k : Nat} {c : ErrCat} : catOfIndex k = some c ↔ k = errIndex c := by
  constructor
  · intro h
    unfold catOfIndex at h
    split at h <;> cases h <;> rfl
  · rintro rfl
    cases c <;> rfl

/-- The counters with the one of slot `k`, if there is one, cleared (10 R31, 46 R285). -/
def clearSlot (k : Nat) (e : ErrCnt) : ErrCnt where
  busReset := if k = 0 then 0 else e.busReset
  timeout := if k = 1 then 0 else e.timeout
  addrNak := if k = 2 then 0 else e.addrNak
  dataNak := if k = 3 then 0 else e.dataNak
  arbLost := if k = 4 then 0 else e.arbLost
  acqFail := if k = 5 then 0 else e.acqFail
  dmaErr := if k = 6 then 0 else e.dmaErr

theorem clearSlot_errIndex (c : ErrCat) (e : ErrCnt) : clearSlot (errIndex c) e = errSet c 0 e := by
  cases c <;> rfl

theorem ne_of_no_slot {k n : Nat} (h : catOfIndex k = none) (hn : n < 7) : k ≠ n := by
  rintro rfl
  interval_cases k <;> cases h

theorem clearSlot_of_no_slot {k : Nat} (h : catOfIndex k = none) (e : ErrCnt) : clearSlot k e = e := by
  simp [clearSlot, ne_of_no_slot h]

theorem exec_resetErrcnt (s : State) :
    exec .resetErrcnt s = .next { s with tc.err := clearSlot (s.tc.cmd.arg0.toNat % 256) s.tc.err } := by
  simp only [exec, execResetErrcnt, argIndex_eq]
  split
  · next c hc => rw [catOfIndex_eq_some_iff.mp hc, clearSlot_errIndex]
  · next hnone => rw [clearSlot_of_no_slot hnone]

end

end Sys2Proof.Machine
end

section
open Sys2Proof Sys2Proof.Machine

/-- Settles O24: the code of a transfer under way, of an overflow, and of each other status at rest. -/
theorem errorCodePrecedence : Obligations.ErrorCodePrecedence := fun s =>
  ⟨fun h => errCode_of_active ((isDone_eq s).trans (decide_eq_false (not_not_intro h))), fun h =>
    ⟨errCode_of_overflow ((isDone_eq s).trans (decide_eq_true h)), errCode_of_status⟩⟩

/-- Settles O33: one counter is replaced by its saturated successor. -/
theorem countersSaturate : Obligations.CountersSaturate :=
  ⟨fun _ => ⟨rfl, rfl, rfl, rfl, rfl, rfl, rfl⟩, fun k s =>
    ⟨_, rfl, by rw [errGet_errSet_same, satInc_toNat], fun j hj => errGet_errSet_other k j _ _ hj⟩⟩

/-- Settles O21: the index names the slot that is cleared, or none. -/
theorem resetErrcntEffect : Obligations.ResetErrcntEffect := exec_resetErrcnt
end

section
/-!
SUPPORT. EV_ERR and the faults: a rule ends in a fault and raises the event, or enters no fault and leaves the bit of the
event alone (46_status_telemetry.md R286).
-/

namespace Sys2Proof.Machine

/-- The statuses of a transfer or an acquisition that ended in a fault (46 R286). -/
def faultStatuses : List Status := [.timeout, .addrNak, .dataNak, .arbitrationLost, .busNotAcquired, .dmaError]

/-- `t` is at rest in a fault, and EV_ERR is pending there if `s` has it enabled. -/
def EndsInFault (s t : State) : Prop :=
  t.tc.xfer.status ∈ faultStatuses ∧ (s.tc.cfg.irqEn.getLsbD 4 = true → t.tc.ev.irqPend.getLsbD 4 = true)

/-- The status of `t` is that of `s`, or no fault. -/
def EntersNoFault (s t : State) : Prop :=
  t.tc.xfer.status = s.tc.xfer.status ∨ t.tc.xfer.status ∉ faultStatuses

/-- The step from `s` to `t` ends in a fault with EV_ERR, or enters none and leaves the bit of EV_ERR alone. -/
def FaultWithEvent (s t : State) : Prop :=
  EndsInFault s t ∨ (EntersNoFault s t ∧ t.tc.ev.irqPend.getLsbD 4 = s.tc.ev.irqPend.getLsbD 4)

section
variable {s t : State}

/-! ### The ends of a transfer -/

/-- A raise of an enabled EV_ERR leaves it pending (60 R294). -/
theorem raiseEv_err_pending (h : t.tc.cfg.irqEn.getLsbD 4 = true) :
    (raiseEv .err t).tc.ev.irqPend.getLsbD 4 = true := by
  have hbit : (eventMask .err).getLsbD 4 = true := rfl
  rw [raiseEv_irqPend, BitVec.getLsbD_or, BitVec.getLsbD_and, hbit, h, Bool.and_self, Bool.or_true]

theorem FaultWithEvent.endArbLost (hcfg : t.tc.cfg = s.tc.cfg := by simp) : FaultWithEvent s (endArbLost t) := by
  refine .inl ⟨by simp [endArbLost_xfer, faultStatuses], fun hen => ?_⟩
  rw [Machine.endArbLost, finalize_ev]
  exact raiseEv_err_pending (by simpa [hcfg] using hen)

theorem FaultWithEvent.endWithStop {st : Status} (hst : st ∈ faultStatuses := by decide)
    (hcfg : t.tc.cfg = s.tc.cfg := by simp) : FaultWithEvent s (endWithStop st t) := by
  refine .inl ⟨by simpa [endWithStop_xfer] using hst, fun hen => ?_⟩
  rw [Machine.endWithStop, finalize_ev]
  exact raiseEv_err_pending (by simpa [hcfg] using hen)

/-- A failed acquisition is a fault, unless it is tried again after a recovery (41 R146, R147). -/
theorem faultWithEvent_acqFail (s : State) : FaultWithEvent s (acqFail s) := by
  unfold acqFail
  split
  · exact .inr ⟨.inl (by simp), by simp⟩
  · refine .inl ⟨by simp [acqGiveUp, faultStatuses], fun hen => ?_⟩
    rw [acqGiveUp, completeCmd_ev]
    exact raiseEv_err_pending hen

theorem EntersNoFault.of_eq {st : Status} (h : t.tc.xfer.status = st) (hst : st ∉ faultStatuses := by decide) :
    EntersNoFault s t := .inr (h ▸ hst)

/-- A step that raises nothing enters a fault only by its status. -/
theorem FaultWithEvent.of_ev (hst : EntersNoFault s t) (hev : t.tc.ev = s.tc.ev := by simp) : FaultWithEvent s t :=
  .inr ⟨hst, by rw [hev]⟩

theorem FaultWithEvent.same (hst : t.tc.xfer.status = s.tc.xfer.status := by simp)
    (hev : t.tc.ev = s.tc.ev := by simp) : FaultWithEvent s t := .of_ev (.inl hst) hev

/-- A success raises its own event or none (42 R174, 43 R201). -/
theorem endSuccess_errBit {ev : HostEv} (he : ev ≠ .err) (t : State) :
    (endSuccess ev t).tc.ev.irqPend.getLsbD 4 = t.tc.ev.irqPend.getLsbD 4 := by
  unfold endSuccess
  simp only [finalize_ev]
  split_ifs
  · simp only [raiseEv_errBit he, emit_ev]
  · rw [emit_ev]
  · rw [raiseEv_errBit he]
  · rfl

theorem FaultWithEvent.endSuccess {ev : HostEv} (he : ev ≠ .err := by decide) (hev : t.tc.ev = s.tc.ev := by simp) :
    FaultWithEvent s (endSuccess ev t) :=
  .inr ⟨.of_eq (st := .waiting) (by simp [endSuccess_xfer]), (endSuccess_errBit he t).trans (by rw [hev])⟩

/-! ### Launch and recovery -/

@[simp] theorem afterLaunch_xfer (s : State) : (afterLaunch s).tc.xfer = s.tc.xfer := by
  unfold afterLaunch
  split <;> rfl

@[simp] theorem afterLaunch_ev (s : State) : (afterLaunch s).tc.ev = s.tc.ev := by
  unfold afterLaunch
  split <;> rfl

@[simp] theorem dmaTxSetup_status (s : State) : (dmaTxSetup s).tc.xfer.status = s.tc.xfer.status := by simp [dmaTxSetup]

@[simp] theorem dmaTxSetup_ev (s : State) : (dmaTxSetup s).tc.ev = s.tc.ev := by simp [dmaTxSetup]

@[simp] theorem dmaRxSetup_status (s : State) : (dmaRxSetup s).tc.xfer.status = s.tc.xfer.status := by simp [dmaRxSetup]

@[simp] theorem dmaRxSetup_ev (s : State) : (dmaRxSetup s).tc.ev = s.tc.ev := by simp [dmaRxSetup]

@[simp] theorem recoveryCleanup_ev (s : State) : (recoveryCleanup s).tc.ev = s.tc.ev := by simp [recoveryCleanup]

/-- A launch leaves the transfer under way (42 R167, 43 R193). -/
theorem faultWithEvent_launch (hev : t.tc.ev = s.tc.ev) : Yields (FaultWithEvent s) (launch t) := by
  unfold launch
  rw [yields_mapNext]
  split
  · simp only [txLaunch, yields_readTx, yields_next]
    intro b _
    split <;> exact .of_ev (.of_eq (st := .sending) (by simp)) (by simpa using hev)
  · simp only [rxLaunch, yields_next]
    split <;> exact .of_ev (.of_eq (st := .sendAddr) (by simp)) (by simpa using hev)

/-- A recovery ends in Waiting (41 R152). -/
theorem faultWithEvent_endRecovery (s : State) : FaultWithEvent s (endRecovery s) := by
  cases hint : s.tc.rcv.internal
  · rw [endRecovery_of_resetBus hint]
    exact .of_ev (.of_eq (st := .waiting) rfl)
  · rw [endRecovery_of_internal hint]
    exact .of_ev (.of_eq (st := .waiting) rfl)

/-! ### Rules -/

/-- A transmitted byte ends the transfer, or is followed by the next (42 R170). -/
theorem faultWithEvent_txCompletion (arbl rxak : Bool) (s : State) :
    Yields (FaultWithEvent s) (txCompletion arbl rxak s) := by
  unfold txCompletion
  simp only [yields_ite, yields_next]
  refine ⟨fun _ => .endArbLost, fun _ => ⟨fun _ => .endWithStop, fun _ => ⟨fun _ => ?nak, fun _ =>
    ⟨fun _ => ?next, fun _ => .endSuccess⟩⟩⟩⟩
  case nak =>
    unfold txNak
    split <;> exact .endWithStop
  case next =>
    simp only [txNext, dmaTxEnterBulk, yields_ite, yields_next, yields_readTx]
    exact ⟨fun _ => .same, fun _ _ _ => .same⟩

/-- The address byte of a receive is lost, refused, or leads on to the first byte (43 R199). -/
theorem faultWithEvent_fireAddrDone (s : State) : Yields (FaultWithEvent s) (fireAddrDone s) := by
  unfold fireAddrDone
  split
  · simp only [yields_ite, yields_next]
    refine ⟨fun _ => .endArbLost, fun _ => ⟨fun _ => ?nak, fun _ => ?ack⟩⟩
    case nak =>
      unfold addrNaked
      split <;> exact .endWithStop
    case ack =>
      simp only [addrAcked, issueRecv, dmaRxEnterBulk]
      split_ifs <;> exact .of_ev (.of_eq (st := .receiving) (by simp))
  · simp

theorem faultWithEvent_fireRxByte (s : State) : Yields (FaultWithEvent s) (fireRxByte s) := by
  unfold fireRxByte
  split
  · simp only [issueRecv, yields_ite, yields_storeRx, yields_next]
    exact ⟨fun _ => .endArbLost, fun _ _ => .same⟩
  · simp

theorem faultWithEvent_fireRxFinal (s : State) : Yields (FaultWithEvent s) (fireRxFinal s) := by
  unfold fireRxFinal
  split
  · simp only [yields_ite, yields_storeRx, yields_next]
    exact ⟨fun _ => .endArbLost, fun _ _ => ⟨fun _ => .endWithStop, fun _ => .endSuccess⟩⟩
  · simp

/-- A slave rule goes to a slave phase or back to Waiting, or leaves the status alone (45 R246 to R251). -/
theorem fireSlaveRule_entersNoFault {r : Rule} (hr : r ∈ slaveRules) (s : State) :
    Yields (EntersNoFault s) (fireRule r s) := by
  unfold EntersNoFault
  cases r with
  | boundary => simp [fireRule, fireBoundary]
  | dispatch =>
    simp only [fireRule, fireDispatch, slaveSetup, slaveTxSetup, slaveRxSetup]
    split
    · split_ifs <;> simp [faultStatuses]
    · simp
  | slaveRx =>
    simp only [fireRule, fireSlaveRx]
    split <;> simp
  | slaveTx =>
    simp only [fireRule, fireSlaveTx]
    split <;> simp [faultStatuses]
  | stopDetect => simp [fireRule, fireStopDetect, slaveRxEnd, faultStatuses]
  | sdaEdge => simp [fireRule, fireSdaEdge, slaveRxEnd, faultStatuses]
  | unexpected => simp [fireRule, fireUnexpected]
  | _ => simp [slaveRules] at hr

theorem faultWithEvent_fireSlaveRule {r : Rule} (hr : r ∈ slaveRules) (s : State) :
    Yields (FaultWithEvent s) (fireRule r s) := by
  intro t ht
  obtain ⟨-, hbit⟩ := fireSlaveRule_raisesNoError hr s t ht
  exact .inr ⟨fireSlaveRule_entersNoFault hr s t ht, hbit⟩

theorem faultWithEvent_fireRule (r : Rule) (s : State) : Yields (FaultWithEvent s) (fireRule r s) := by
  cases r with
  | acquire =>
    simp only [fireRule, fireAcquire, yields_ite, yields_next]
    exact ⟨fun _ => faultWithEvent_launch (by simp), fun _ => ⟨fun _ => faultWithEvent_launch (by simp), fun _ =>
      faultWithEvent_acqFail s⟩⟩
  | recover =>
    simp only [fireRule, fireRecover]
    split
    · simp only [yields_ite, yields_next]
      exact ⟨fun _ => faultWithEvent_endRecovery s, fun _ => .same⟩
    · exact yields_next.mpr .same
    · exact yields_next.mpr .same
    · exact yields_refused _
  | timeout => exact yields_next.mpr .same
  | txDone =>
    simp only [fireRule, fireTxDone]
    split
    · exact faultWithEvent_txCompletion _ _ { s with tc.port.lev := none }
    · exact yields_refused _
  | addrDone => exact faultWithEvent_fireAddrDone s
  | rxByte => exact faultWithEvent_fireRxByte s
  | rxFinal => exact faultWithEvent_fireRxFinal s
  | bulkError =>
    simp only [fireRule, fireBulkError, yields_ite, yields_next]
    exact ⟨fun _ => .endArbLost, fun _ => ⟨fun _ => .endWithStop, fun _ => .endWithStop⟩⟩
  | dmaDone =>
    simp only [fireRule, fireDmaDone]
    split
    · exact yields_next.mpr .same
    · exact yields_next.mpr .same
  | dmaError =>
    simp only [fireRule, fireDmaError, yields_ite, yields_next]
    exact ⟨fun _ => .endArbLost, fun _ => .endWithStop⟩
  | dmaStale => exact yields_next.mpr .same
  | boundary | dispatch | slaveRx | slaveTx | stopDetect | sdaEdge | unexpected =>
    exact faultWithEvent_fireSlaveRule (by decide) s

end

end Sys2Proof.Machine
end

section
open Sys2Proof Sys2Proof.Machine

/-- Settles O46: a rule ends in a fault with the event, or enters no fault and leaves the event alone. -/
theorem errorEventWithFault : Obligations.ErrorEventWithFault := by
  intro r s t h
  obtain ⟨-, hfire⟩ := stepRule_eq_next h
  rcases faultWithEvent_fireRule r s t hfire with ⟨hfault, hpend⟩ | ⟨hst, hbit⟩
  · exact ⟨fun _ _ => hpend, fun _ _ => hfault⟩
  · refine ⟨fun hfault hne => ?_, fun hset hclear => ?_⟩
    · exact (hst.elim hne (absurd hfault)).elim
    · rw [hbit, hclear] at hset
      cases hset
end

section
/-!
SUPPORT. The faults of a step (60_exceptions.md R292): in a TC that meets the invariants every cell a step reads holds a
value (10_state.md R35) and every byte is stored inside its buffer (R26), so only a host access can fault.
-/

namespace Sys2Proof.Machine

section
variable {s t : State}

/-! ### The shared operations -/

@[simp] theorem faultsOnlyOnAccess_next : FaultsOnlyOnAccess (.next t) := by simp [FaultsOnlyOnAccess]

@[simp] theorem faultsOnlyOnAccess_refused (r : Refusal) : FaultsOnlyOnAccess (.refused r) := by
  simp [FaultsOnlyOnAccess]

@[simp] theorem faultsOnlyOnAccess_hostAccess (off : Nat) : FaultsOnlyOnAccess (.fault (.hostAccess off)) := by
  simp [FaultsOnlyOnAccess]

@[simp] theorem faultsOnlyOnAccess_ite {c : Prop} [Decidable c] {r r' : Result} :
    FaultsOnlyOnAccess (if c then r else r') ↔ (c → FaultsOnlyOnAccess r) ∧ (¬c → FaultsOnlyOnAccess r') := by
  split <;> simp [*]

theorem faultsOnlyOnAccess_mapNext {f : State → State} {r : Result} (h : FaultsOnlyOnAccess r) :
    FaultsOnlyOnAccess (mapNext f r) := fun _ hf => h _ (mapNext_eq_fault hf)

theorem faultsOnlyOnAccess_readTx {i : Nat} {k : Byte → Result} (hcell : (s.tc.buf.txbuf.read i).isSome = true)
    (hk : ∀ b, FaultsOnlyOnAccess (k b)) : FaultsOnlyOnAccess (readTx i s k) := by
  rcases readTx_cases i s k with ⟨b, -, he⟩ | ⟨hnone, -⟩
  · rw [he]; exact hk b
  · simp [hnone] at hcell

theorem faultsOnlyOnAccess_storeRx {d : Byte} {k : State → Result} (hroom : s.tc.buf.rxlen < s.par.rxCap)
    (hk : ∀ u, FaultsOnlyOnAccess (k u)) : FaultsOnlyOnAccess (storeRx d s k) := by
  rcases storeRx_cases d s k with ⟨-, he⟩ | ⟨hfull, -⟩
  · rw [he]; exact hk _
  · omega

@[simp] theorem faultsOnlyOnAccess_placeLev {ev : LinkEv} : FaultsOnlyOnAccess (placeLev ev s) := by
  rcases placeLev_cases ev s with ⟨-, he⟩ | ⟨-, he⟩ <;> simp [he]

theorem faultsOnlyOnAccess_answerIssued {x : Issued} {k : State → Result}
    (hk : ∀ rest, FaultsOnlyOnAccess (k { s with tc.link.issued := rest })) :
    FaultsOnlyOnAccess (answerIssued x s k) := by
  rcases answerIssued_cases x s k with ⟨rest, -, he⟩ | he <;> simp [he, hk]

theorem faultsOnlyOnAccess_slaveEvent {r : Result} (h : FaultsOnlyOnAccess r) :
    FaultsOnlyOnAccess (slaveEvent s r) := by simp [slaveEvent, h]

theorem faultsOnlyOnAccess_sendOrZero {i : Nat} (h : CellsBelow s.tc.buf.txbuf s.tc.buf.txlen) :
    FaultsOnlyOnAccess (sendOrZero i s) := by
  unfold sendOrZero
  split
  · next hi => exact faultsOnlyOnAccess_readTx (h i hi) fun b => faultsOnlyOnAccess_next
  · exact faultsOnlyOnAccess_next

/-! ### Rules -/

theorem faultsOnlyOnAccess_launch (h : s.tc.cmd.kind = .tx → (s.tc.buf.txbuf.read 0).isSome = true) :
    FaultsOnlyOnAccess (launch s) := by
  refine faultsOnlyOnAccess_mapNext ?_
  split
  · next hk =>
    refine faultsOnlyOnAccess_readTx ?_ fun b => faultsOnlyOnAccess_next
    split <;> simpa [dmaTxSetup] using h hk
  · exact faultsOnlyOnAccess_next

/-- A transmit that waits for the bus has its address byte in cell 0 (41 R144, 42 R160). -/
theorem faultsOnlyOnAccess_fireAcquire {p : Params} (hI : TcInv p s.tc) (h : TransferInv s.tc)
    (ho : s.tc.cmd.op = .acq) : FaultsOnlyOnAccess (fireAcquire s) := by
  by_cases hbus : s.tc.xfer.masterHeld = true ∨ s.tc.port.linkBusy = false
  · rw [fireAcquire_of_bus hbus]
    refine faultsOnlyOnAccess_launch ?_
    rw [claimBus_cmd, claimBus_buf]
    exact fun hk => hI.txWritten 0 (h.txReady (.inl ho) hk).1
  · rw [not_or, Bool.not_eq_true, Bool.not_eq_false] at hbus
    rw [fireAcquire_of_no_bus hbus.1 hbus.2]
    exact faultsOnlyOnAccess_next

theorem faultsOnlyOnAccess_fireRecover : FaultsOnlyOnAccess (fireRecover s) := by
  unfold fireRecover
  split <;> simp

/-- The byte after one that is not the last lies below `txlen` (42 R173). -/
theorem faultsOnlyOnAccess_txCompletion {arbl rxak : Bool} (h : CellsBelow s.tc.buf.txbuf s.tc.buf.txlen) :
    FaultsOnlyOnAccess (txCompletion arbl rxak s) := by
  unfold txCompletion txNext
  simp only [faultsOnlyOnAccess_ite, faultsOnlyOnAccess_next, implies_true, true_and, and_true]
  exact fun _ _ _ hlt _ => faultsOnlyOnAccess_readTx (h _ hlt) fun b => faultsOnlyOnAccess_next

/-- A receive the DMA agent has no part in, or no longer, has room for the byte it waits for (43 R200 to R202). -/
theorem TransferInv.receive_room {c : Tc} (h : TransferInv c) (hst : c.xfer.status = .receiving)
    (hph : c.xfer.dmaPhase = .off ∨ c.xfer.dmaPhase = .last) : c.buf.rxlen < c.buf.rxreq.toNat := by
  rcases hph with hoff | hlast
  · have hcount := h.receiveCount hst hoff
    split at hcount <;> omega
  · have hk : c.cmd.kind = .rx := h.kind_rx (by rw [hst]; rfl) (by simp [hst])
    exact (h.rxLast hlast hk).1.le

theorem faultsOnlyOnAccess_fireRxByte (hroom : s.tc.buf.rxlen < s.par.rxCap) :
    FaultsOnlyOnAccess (fireRxByte s) := by
  unfold fireRxByte
  split
  · simp only [faultsOnlyOnAccess_ite, faultsOnlyOnAccess_next, implies_true, true_and]
    exact fun _ => faultsOnlyOnAccess_storeRx hroom fun u => faultsOnlyOnAccess_next
  · simp

theorem faultsOnlyOnAccess_fireRxFinal (hroom : s.tc.buf.rxlen < s.par.rxCap) :
    FaultsOnlyOnAccess (fireRxFinal s) := by
  unfold fireRxFinal
  split
  · simp only [faultsOnlyOnAccess_ite, faultsOnlyOnAccess_next, implies_true, true_and]
    exact fun _ => faultsOnlyOnAccess_storeRx hroom fun u => by simp
  · simp

theorem faultsOnlyOnAccess_fireSlaveRx : FaultsOnlyOnAccess (fireSlaveRx s) := by
  unfold fireSlaveRx
  split
  · simp only [faultsOnlyOnAccess_ite, faultsOnlyOnAccess_next, implies_true, and_true]
    exact fun hroom => faultsOnlyOnAccess_storeRx hroom fun u => faultsOnlyOnAccess_next
  · simp

theorem faultsOnlyOnAccess_fireSlaveTx (h : CellsBelow s.tc.buf.txbuf s.tc.buf.txlen) :
    FaultsOnlyOnAccess (fireSlaveTx s) := by
  unfold fireSlaveTx
  split
  · simp only [faultsOnlyOnAccess_ite, faultsOnlyOnAccess_next, implies_true, and_true]
    exact fun _ => faultsOnlyOnAccess_sendOrZero h
  · simp

theorem faultsOnlyOnAccess_fireRule (r : Rule) (hI : TcInv s.par s.tc) (h : TransferInv s.tc)
    (hg : ruleEnabled r s = true) : FaultsOnlyOnAccess (fireRule r s) := by
  cases r with
  | acquire =>
    obtain ⟨-, ho, -⟩ := canAcquire_iff.mp hg
    exact faultsOnlyOnAccess_fireAcquire hI h ho
  | recover => exact faultsOnlyOnAccess_fireRecover
  | txDone =>
    simp only [fireRule, fireTxDone]
    split
    · exact faultsOnlyOnAccess_txCompletion hI.txWritten
    · simp
  | addrDone =>
    simp only [fireRule, fireAddrDone]
    split <;> simp
  | rxByte =>
    obtain ⟨hst, -, -, hoff, -⟩ := canRxByte_iff.mp hg
    exact faultsOnlyOnAccess_fireRxByte ((h.receive_room hst (.inl hoff)).trans_le hI.rxreqBound)
  | rxFinal =>
    obtain ⟨hst, -, -, hph, -⟩ := canRxFinal_iff.mp hg
    exact faultsOnlyOnAccess_fireRxFinal ((h.receive_room hst hph).trans_le hI.rxreqBound)
  | bulkError => simp [fireRule, fireBulkError]
  | dmaDone =>
    simp only [fireRule, fireDmaDone]
    split <;> exact faultsOnlyOnAccess_next
  | dmaError => simp [fireRule, fireDmaError]
  | dispatch =>
    simp only [fireRule, fireDispatch]
    split <;> simp
  | slaveRx => exact faultsOnlyOnAccess_fireSlaveRx
  | slaveTx => exact faultsOnlyOnAccess_fireSlaveTx hI.txWritten
  | stopDetect => simp [fireRule, fireStopDetect]
  | sdaEdge => simp [fireRule, fireSdaEdge]
  | timeout | dmaStale | boundary | unexpected => exact faultsOnlyOnAccess_next

/-! ### Moves of LINK and DMA -/

/-- A byte the DMA agent waits for lies inside its range, which ends below the capacity (44 R221, R223). -/
theorem faultsOnlyOnAccess_dmaTakeByte {d : Byte} (hI : TcInv s.par s.tc) (h : TransferInv s.tc)
    (hr : routesRc s = true) : FaultsOnlyOnAccess (dmaTakeByte d s) := by
  obtain ⟨hen, hdir, hpend⟩ := routesRc_iff.mp hr
  have hph := h.dmaEnabled hen
  have hk := (h.dir_rx_iff (by simp [hph])).mp hdir
  obtain ⟨-, hle⟩ := h.dmaPending hpend
  obtain ⟨hnext, -, hlast⟩ := h.rxBulk hph hk
  have hcap := hI.rxreqBound
  unfold dmaTakeByte
  rw [if_neg (by omega), if_neg (by omega)]
  simp

theorem faultsOnlyOnAccess_deliver (ev : LinkEv) (hI : TcInv s.par s.tc) (h : TransferInv s.tc) :
    FaultsOnlyOnAccess (deliver ev s) := by
  unfold deliver
  split
  · simp
  · cases ev with
    | tc => exact faultsOnlyOnAccess_answerIssued fun rest => by simp
    | rc arbl d =>
      refine faultsOnlyOnAccess_answerIssued fun rest => ?_
      rw [faultsOnlyOnAccess_ite]
      refine ⟨fun hr => ?_, fun _ => faultsOnlyOnAccess_placeLev⟩
      obtain ⟨-, hroute⟩ := Bool.and_eq_true_iff.mp hr
      exact faultsOnlyOnAccess_dmaTakeByte hI.congr h.congr hroute
    | addr =>
      refine faultsOnlyOnAccess_slaveEvent ?_
      rw [faultsOnlyOnAccess_ite]
      exact ⟨fun _ => faultsOnlyOnAccess_refused _, fun _ => faultsOnlyOnAccess_mapNext faultsOnlyOnAccess_placeLev⟩
    | srx => exact faultsOnlyOnAccess_slaveEvent faultsOnlyOnAccess_placeLev
    | stx =>
      refine faultsOnlyOnAccess_slaveEvent ?_
      rw [faultsOnlyOnAccess_ite]
      exact ⟨fun _ => faultsOnlyOnAccess_refused _, fun _ => faultsOnlyOnAccess_mapNext faultsOnlyOnAccess_placeLev⟩
    | stopf => simp [faultsOnlyOnAccess_slaveEvent]

/-- The DMA agent sends cells of its range only, and they hold values (44 R222). -/
theorem faultsOnlyOnAccess_dmaAgent (d : DmaStep) (h : TransferInv s.tc) : FaultsOnlyOnAccess (dmaAgent d s) := by
  cases d with
  | txElement =>
    simp only [dmaAgent, faultsOnlyOnAccess_ite, faultsOnlyOnAccess_refused, implies_true, true_and,
      Bool.not_eq_true', Bool.not_eq_false]
    intro hcan _
    obtain ⟨-, hdir, -, hle⟩ := canTxElement_iff.mp hcan
    exact faultsOnlyOnAccess_readTx (h.dmaTxCells hdir _ le_rfl hle) fun b => faultsOnlyOnAccess_next
  | rxIssue => simp [dmaAgent]
  | error => simp [dmaAgent]

theorem faultsOnlyOnAccess_busMove (m : BusMove) (hI : TcInv s.par s.tc) (h : TransferInv s.tc) :
    FaultsOnlyOnAccess (busMove m s) := by
  cases m with
  | rule r => simpa [busMove, stepRule] using faultsOnlyOnAccess_fireRule r hI h
  | deliver ev => exact faultsOnlyOnAccess_deliver ev hI h
  | dma d => exact faultsOnlyOnAccess_dmaAgent d h
  | sdaRise => simp [busMove, sdaRise]
  | linkBusy | linkArbl | dmaAvailable | sda | scl | powerOn => exact faultsOnlyOnAccess_next

/-! ### Host accesses -/

/-- SLAVE_RELEASE sends cell 0 only where a byte has been written (45 R250). -/
theorem faultsOnlyOnAccess_exec (i : Instr) (h : CellsBelow s.tc.buf.txbuf s.tc.buf.txlen) :
    FaultsOnlyOnAccess (exec i s) := by
  intro f hf
  obtain ⟨-, -, hlen, hnone, -⟩ := exec_eq_fault hf
  simpa [hnone] using h 0 hlen

/-- A register read takes only receive cells that have been written (46 R274, R275). -/
theorem faultsOnlyOnAccess_hostRead (off size : Nat) (h : CellsBelow s.tc.buf.rxbuf s.tc.buf.rxlen) :
    FaultsOnlyOnAccess (hostRead off size s) := by
  rcases hostRead_dispatch off size s with ⟨-, he⟩ | ⟨-, ⟨r, -, he⟩ | ⟨-, he⟩⟩ <;> rw [he]
  · exact faultsOnlyOnAccess_hostAccess off
  · intro f hf
    obtain ⟨-, hlt, hnone, -⟩ := readReg_eq_fault hf
    simpa [hnone] using h _ hlt
  · exact faultsOnlyOnAccess_next

theorem faultsOnlyOnAccess_hostWrite (off size : Nat) (v : Word) (h : CellsBelow s.tc.buf.txbuf s.tc.buf.txlen) :
    FaultsOnlyOnAccess (hostWrite off size v s) := by
  rcases hostWrite_dispatch off size v s with ⟨-, he⟩ | ⟨-, ⟨-, he⟩ | ⟨r, -, he⟩ | ⟨-, he⟩⟩ <;> rw [he]
  · exact faultsOnlyOnAccess_hostAccess off
  · unfold writeCmd
    split
    · exact faultsOnlyOnAccess_exec _ h
    · exact faultsOnlyOnAccess_next
  · exact faultsOnlyOnAccess_next
  · exact faultsOnlyOnAccess_next

/-! ### Moves of the machine -/

/-- The TC in focus is one of the instances. -/
theorem tc_mem_instances (s : State) : s.tc ∈ instances s := by simp [instances]

/-- The invariant of the machine holds of a TC wherever the focus is. -/
theorem Refocused.focus_inv (hu : Refocused s t) (hI : FullInv s) : TcInv t.par t.tc ∧ TransferInv t.tc := by
  have hmem : t.tc ∈ instances s := hu.instances_eq ▸ tc_mem_instances t
  exact ⟨hu.par ▸ hI.machine.each _ hmem, hI.transfer _ hmem⟩

theorem faultsOnlyOnAccess_move (m : Move) (hI : FullInv s) : FaultsOnlyOnAccess (move m s) := by
  cases m with
  | host a =>
    cases a with
    | read addr size =>
      simp only [move, hostAccess]
      split
      · next f hf =>
        obtain ⟨-, ht⟩ := (focusHost_refocused hf).focus_inv hI
        exact faultsOnlyOnAccess_hostRead _ _ ht.rxWritten
      · simp
    | write addr size v =>
      simp only [move, hostAccess]
      split
      · next f hf =>
        obtain ⟨hi, -⟩ := (focusHost_refocused hf).focus_inv hI
        exact faultsOnlyOnAccess_hostWrite _ _ _ hi.txWritten
      · simp
  | hostPrio p => simp [move, presentPrio]
  | time dt => simp [move, advanceTime]
  | bus n b =>
    simp only [move]
    split
    · next u hu =>
      obtain ⟨-, -, hre⟩ := focusAt_eq_some hu
      obtain ⟨hi, ht⟩ := hre.focus_inv hI
      exact faultsOnlyOnAccess_busMove b hi ht
    · simp

theorem FullInv.withRest (hI : FullInv s) (rest : List Move) (draws : Nat) : FullInv (s.withRest rest draws) :=
  ⟨⟨hI.machine.hostPrioBound, hI.machine.each⟩, hI.transfer⟩

end

end Sys2Proof.Machine
end

section
open Sys2Proof.Machine

/-- Settles O59: the move of the step concerns one TC, whose invariants say that the cells it reads hold values and that
the buffers have room for the bytes it stores. -/
theorem onlyFaultIsHostAccess : Obligations.OnlyFaultIsHostAccess := by
  intro s hI
  obtain ⟨rest, draws, hs⟩ := nextMove_eq_withRest s
  rw [step, hs]
  exact faultsOnlyOnAccess_move _ (hI.withRest rest draws)
end

section
/-!
SUPPORT. How a run ends (60_exceptions.md R313): what a quiet instance can still do, what a waiting host does next, and that
the three ends exclude each other.
-/

namespace Sys2Proof.Machine

section
variable {s t : State} {rest : List Move}

/-! ### Quiet instances -/

theorem everyInstance_iff {p : State → Bool} :
    everyInstance p s = true ↔ ∀ n u, focusAt n s = some u → p u = true := by
  simp only [everyInstance, List.all_eq_true, List.mem_range]
  constructor
  · intro h n u hu
    obtain ⟨-, hget, -⟩ := focusAt_eq_some hu
    simpa [hu] using h n (List.getElem?_eq_some_iff.mp hget).1
  · intro h n _
    split
    · exact h n _ ‹_›
    · rfl

theorem move_bus_ne_next {n : Nat} {m : BusMove} (h : ∀ u, focusAt n s = some u → busMove m u ≠ .next t) :
    move (.bus n m) s ≠ .next t := by
  simp only [move]
  split
  · next u hu => exact h u hu
  · simp

theorem mem_allRules (r : Rule) : r ∈ allRules := by cases r <;> decide

/-- Where the TC has no enabled step, none of its rules has one (00 R9). -/
theorem stepRule_ne_next_of_quiet (h : tcCanStep s = false) (r : Rule) : stepRule r s ≠ .next t := by
  have hr : ruleEnabled r s = false := by simpa using List.any_eq_false.mp h r (mem_allRules r)
  simp [stepRule, hr]

theorem dmaAgent_ne_next_of_idle (h : dmaCanStep s = false) (d : DmaStep) : dmaAgent d s ≠ .next t := by
  obtain ⟨htx, hrx⟩ := Bool.or_eq_false_iff.mp h
  cases d <;> simp [dmaAgent, htx, hrx]

theorem issued_of_not_owed (h : linkOwes s = false) : s.tc.link.issued = [] := by simpa [linkOwes] using h

/-- With no byte given, LINK has none to complete (30 R107 (b)). -/
theorem deliver_tc_ne_next (h : linkOwes s = false) (arbl rxak : Bool) : deliver (.tc arbl rxak) s ≠ .next t := by
  intro ht
  obtain ⟨rest, hi, -⟩ := (deliver_tc_eq_next_iff (pinsGpio_of_deliver ht)).mp ht
  simp [issued_of_not_owed h] at hi

/-- With no receive asked for, LINK has none to complete (30 R107 (c)). -/
theorem deliver_rc_ne_next (h : linkOwes s = false) (arbl : Bool) (d : Byte) : deliver (.rc arbl d) s ≠ .next t := by
  intro ht
  obtain ⟨rest, hi, -⟩ := (deliver_rc_eq_next_iff (pinsGpio_of_deliver ht)).mp ht
  simp [issued_of_not_owed h] at hi

theorem deliver_stx_ne_next (h : s.tc.link.slaveByte = false) (b : Bool) : deliver (.stx b) s ≠ .next t := by
  intro ht
  obtain ⟨-, hbyte, -⟩ := (deliver_stx_eq_next_iff (pinsGpio_of_deliver ht)).mp ht
  simp [h] at hbyte

theorem instanceQuiet_iff :
    instanceQuiet s = true ↔ tcCanStep s = false ∧ dmaCanStep s = false ∧ linkOwes s = false := by
  simp [instanceQuiet, and_assoc]

/-! ### Polls and time -/

theorem isTime_iff {m : Move} : isTime m = true ↔ ∃ dt, m = .time dt := by cases m <;> simp [isTime]

/-- A poll is a 32-bit read of the STATUS register of some TC. -/
theorem isPoll_eq_read {a : Access} (h : isPoll s a = true) :
    ∃ addr u, a = .read addr 4 ∧ focusHost addr s = some (u, regOff .status) := by
  cases a with
  | read addr size =>
    simp only [isPoll] at h
    split at h
    · next f hf =>
      simp only [Bool.and_eq_true, beq_iff_eq] at h
      obtain ⟨⟨rfl, hoff⟩, -⟩ := h
      exact ⟨addr, f.1, rfl, by rw [hf, ← hoff]⟩
    · cases h
  | write => cases h

/-- The script of a waiting host: polls and time, and at least one poll. -/
theorem hostWaits_iff :
    hostWaits s = true ↔ (∀ m ∈ s.script, isPollOrTime s m = true) ∧ s.script.all isTime = false := by
  simp [hostWaits]

theorem isPollOrTime_cases {m : Move} (h : isPollOrTime s m = true) :
    (∃ dt, m = .time dt) ∨
      ∃ addr u, m = .host (.read addr 4) ∧ focusHost addr s = some (u, regOff .status) := by
  cases m with
  | time dt => exact .inl ⟨dt, rfl⟩
  | host a =>
    obtain ⟨addr, u, rfl, hu⟩ := isPoll_eq_read h
    exact .inr ⟨addr, u, rfl, hu⟩
  | hostPrio | bus => cases h

/-- The step takes the first move, with the rest still to come. -/
theorem step_script_withRest {m : Move} (h : s.script = m :: rest) : step s = move m (s.withRest rest s.draws) :=
  step_script h

/-- A poll returns the STATUS word and changes no instance (46 R270). -/
theorem step_of_poll {addr : HostAddr} {u : State} (h : s.script = .host (.read addr 4) :: rest)
    (hu : focusHost addr s = some (u, regOff .status)) :
    step s = .next { u.withRest rest s.draws with rdata := some (statusWord u) } := by
  rw [step_script_withRest h, move, hostAccess, focusHost_withRest, hu]
  exact hostRead_plain .status rfl

/-- The next step of a run that waits polls or lets time pass: it touches no instance. -/
theorem step_of_waiting (h : hostWaits s = true) (ht : step s = .next t) :
    instances t = instances s ∧ t.hostPrio = s.hostPrio := by
  obtain ⟨hall, hpoll⟩ := hostWaits_iff.mp h
  cases hs : s.script with
  | nil => simp [hs] at hpoll
  | cons m rest =>
    rcases isPollOrTime_cases (hall m (by simp [hs])) with ⟨dt, rfl⟩ | ⟨addr, u, rfl, hu⟩
    · rw [step_script_withRest hs] at ht
      obtain rfl := advanceTime_eq_next ht
      exact ⟨rfl, rfl⟩
    · rw [step_of_poll hs hu] at ht
      cases ht
      have hre := focusHost_refocused hu
      exact ⟨hre.instances_eq, hre.hostPrio⟩

/-! ### The ends -/

theorem script_time_of_runCompleted (hc : runCompleted s = true) : s.script.all isTime = true := by
  obtain ⟨htime, -⟩ := Bool.and_eq_true_iff.mp hc
  exact htime

theorem not_runStuck_of_runCompleted (hc : runCompleted s = true) : ¬runStuck s := by
  rintro ⟨hw, -⟩
  obtain ⟨-, hpoll⟩ := hostWaits_iff.mp hw
  simp [script_time_of_runCompleted hc] at hpoll

theorem not_runFaulted_of_runCompleted {off : Nat} (hc : runCompleted s = true) : ¬runFaulted off s := by
  rintro ⟨a, rest, hs, -⟩
  have htime := script_time_of_runCompleted hc
  simp [hs, isTime] at htime

theorem not_runFaulted_of_runStuck {off : Nat} (hk : runStuck s) : ¬runFaulted off s := by
  rintro ⟨a, rest, hs, hf⟩
  obtain ⟨hall, -⟩ := hostWaits_iff.mp hk.1
  rcases isPollOrTime_cases (hall (.host a) (by simp [hs])) with ⟨dt, hm⟩ | ⟨addr, u, hm, hu⟩
  · cases hm
  · cases hm
    rw [step_of_poll hs hu] at hf
    cases hf

theorem runFaulted_unique {off off' : Nat} (h : runFaulted off s) (h' : runFaulted off' s) : off = off' := by
  obtain ⟨-, -, -, hf⟩ := h
  obtain ⟨-, -, -, hf'⟩ := h'
  rw [hf] at hf'
  cases hf'
  rfl

theorem runEnds_unique {e e' : RunEnd} (h : runEnds e s) (h' : runEnds e' s) : e = e' := by
  cases e with
  | completed =>
    cases e' with
    | completed => rfl
    | faulted => exact absurd h' (not_runFaulted_of_runCompleted h)
    | stuck => exact absurd h' (not_runStuck_of_runCompleted h)
  | faulted =>
    cases e' with
    | completed => exact absurd h (not_runFaulted_of_runCompleted h')
    | faulted => exact congrArg RunEnd.faulted (runFaulted_unique h h')
    | stuck => exact absurd h (not_runFaulted_of_runStuck h')
  | stuck =>
    cases e' with
    | completed => exact absurd h (not_runStuck_of_runCompleted h')
    | faulted => exact absurd h' (not_runFaulted_of_runStuck h)
    | stuck => rfl

/-- A run faults where its next host access does (60 R292). -/
theorem runFaulted_iff {a : Access} {o : Nat} (h : s.script = .host a :: rest) :
    runFaulted o s ↔ hostAccess a (s.withRest rest s.draws) = .fault (.hostAccess o) := by
  have hstep : step s = hostAccess a (s.withRest rest s.draws) := step_script_withRest h
  rw [← hstep]
  exact ⟨fun ⟨_, _, _, hf⟩ => hf, fun hf => ⟨a, rest, h, hf⟩⟩

end

end Sys2Proof.Machine
end

section
/-!
SUPPORT. How a command ends (60_exceptions.md R290, 30_encoding.md R100 to R102): what a refused command changes, and that
one that is not rejected leaves the sticky bits alone.
-/

namespace Sys2Proof.Machine

section
variable {s t : State} {i : Instr}

/-! ### Refused -/

/-- `t` is `s` after a refusal: RESULT is 0, or it is 1 and the status BufferOverflow (43 R192, 46 R273). -/
def RefusedTo (s t : State) : Prop :=
  ∃ (st : Status) (v : Word), t = { s with tc.xfer.status := st, tc.cmd.result := v } ∧
    (st = s.tc.xfer.status ∧ v = 0 ∨ st = .bufferOverflow ∧ v = 1)

theorem refusedTo_setResult (s : State) : RefusedTo s (setResult 0 s) := ⟨_, _, rfl, .inl ⟨rfl, rfl⟩⟩

theorem refusedTo_startTx {stop b : Bool} {v : Word} (h : s.tc.buf.txlen = 0) : RefusedTo s (startTx stop b v s) := by
  rw [startTx_of_empty h]
  exact refusedTo_setResult s

theorem refusedTo_startRx {stop b : Bool} {v : Word} (h : receiveRefused s = true) :
    RefusedTo s (startRx stop b v s) := by
  simp only [receiveRefused, Bool.or_eq_true, beq_iff_eq, decide_eq_true_eq] at h
  rcases h with hnone | hover
  · rw [startRx_of_none hnone]
    exact refusedTo_setResult s
  · rw [startRx_of_over hover]
    exact ⟨_, _, rfl, .inr ⟨rfl, rfl⟩⟩

theorem exec_of_commandRefused (haccept : commandRejected i s = false) (h : commandRefused i s = true) :
    ∃ t, exec i s = .next t ∧ RefusedTo s t := by
  have started {body : State → State} (hg : (s.tc.cmd.busy || startRejects s) = false) (hb : RefusedTo s (body s)) :
      ∃ t, gated (startRejects s) body s = .next t ∧ RefusedTo s t := by
    obtain ⟨hbusy, hstart⟩ := Bool.or_eq_false_iff.mp hg
    exact ⟨_, gated_accept hbusy hstart, hb⟩
  cases i with
  | configure => exact ⟨_, exec_of_configRefused (.inl rfl) haccept h, refusedTo_setResult s⟩
  | setStrategy => exact ⟨_, exec_of_configRefused (.inr (.inl rfl)) haccept h, refusedTo_setResult s⟩
  | setRate => exact ⟨_, exec_of_configRefused (.inr (.inr rfl)) haccept h, refusedTo_setResult s⟩
  | writeByte =>
    obtain ⟨hbusy, hact⟩ := Bool.or_eq_false_iff.mp haccept
    exact ⟨_, exec_of_writeRefused (.inl rfl) hbusy hact h, refusedTo_setResult s⟩
  | writeBytes n =>
    obtain ⟨hbusy, hact⟩ := Bool.or_eq_false_iff.mp haccept
    exact ⟨_, exec_of_writeRefused (.inr ⟨n, rfl⟩) hbusy hact h, refusedTo_setResult s⟩
  | endWrite | sendWrite => exact started haccept (refusedTo_startTx (beq_iff_eq.mp h))
  | read | sendRead => exact started haccept (refusedTo_startRx h)
  | beginWrite | await | slaveRelease | resetBus | resetErrcnt | eoi => cases h

/-! ### Accepted -/

/-- Neither sticky bit changes (30 R97). -/
def KeepsSticky (s t : State) : Prop := t.tc.cmd.reject = s.tc.cmd.reject ∧ t.tc.cmd.illegal = s.tc.cmd.illegal

theorem KeepsSticky.of_cmd (h : t.tc.cmd = s.tc.cmd) : KeepsSticky s t := by rw [KeepsSticky, h]; exact ⟨rfl, rfl⟩

theorem FillsTx.setResult_keepsSticky {lo hi : Nat} (hf : FillsTx lo hi s t) (v : Word) :
    KeepsSticky s (setResult v t) := by
  obtain ⟨m, n, o, rfl⟩ := hf.eq
  exact ⟨rfl, rfl⟩

theorem keepsSticky_startTx {stop b : Bool} {v : Word} : KeepsSticky s (startTx stop b v s) := by
  unfold startTx
  split <;> exact ⟨rfl, rfl⟩

theorem keepsSticky_startRx {stop b : Bool} {v : Word} : KeepsSticky s (startRx stop b v s) := by
  unfold startRx
  simp only []
  split_ifs <;> exact ⟨rfl, rfl⟩

/-- A command that is not rejected leaves both sticky bits alone (30 R100). -/
theorem keepsSticky_exec (h : commandRejected i s = false) : Yields (KeepsSticky s) (exec i s) := by
  have accepted {g : Bool} {body : State → State} (hg : (s.tc.cmd.busy || g) = false) (hb : KeepsSticky s (body s)) :
      Yields (KeepsSticky s) (gated g body s) := by
    obtain ⟨hbusy, hg⟩ := Bool.or_eq_false_iff.mp hg
    rwa [gated_accept hbusy hg, yields_next]
  cases i with
  | configure =>
    simp only [exec, execConfigure]
    refine accepted h ?_
    split
    · exact ⟨rfl, rfl⟩
    · split <;> exact ⟨rfl, rfl⟩
  | setStrategy =>
    simp only [exec, execSetStrategy]
    refine accepted (g := false) (by simpa [commandRejected] using h) ?_
    split
    · exact ⟨rfl, rfl⟩
    · split <;> exact ⟨rfl, rfl⟩
  | setRate =>
    simp only [exec, execSetRate]
    refine accepted (g := false) (by simpa [commandRejected] using h) ?_
    split <;> exact ⟨rfl, rfl⟩
  | beginWrite => exact accepted (by simpa [commandRejected, and_assoc] using h) ⟨rfl, rfl⟩
  | writeByte =>
    simp only [exec, execWriteByte]
    refine accepted h ?_
    split
    · exact ⟨rfl, rfl⟩
    · exact (appendOrDrop_fills (argByte s) 0 s).1.setResult_keepsSticky _
  | writeBytes n =>
    simp only [exec, execWriteBytes]
    refine accepted h ?_
    split
    · exact ⟨rfl, rfl⟩
    · exact (appendAll_fills (argBytes s.tc.cmd.arg0 n) 0 s).setResult_keepsSticky _
  | endWrite | sendWrite => exact accepted h keepsSticky_startTx
  | read | sendRead => exact accepted h keepsSticky_startRx
  | await d =>
    simp only [exec, execAwait]
    refine accepted (g := false) (by simpa [commandRejected] using h) ?_
    split <;> exact ⟨rfl, rfl⟩
  | resetBus =>
    simp only [exec, execResetBus]
    refine accepted (by simpa [commandRejected, and_assoc] using h) ?_
    rw [startRecovery_eq]
    exact ⟨rfl, rfl⟩
  | slaveRelease | resetErrcnt | eoi => exact fun t ht => .of_cmd (exec_housekeeping_cmd rfl t ht)

/-! ### The four outcomes -/

/-- The result `r` of a CMD write in `s` is one of the outcome `o` (60 R290). -/
def AnswersCmd (o : CmdOutcome) (s : State) (r : Result) : Prop :=
  match o with
  | .illegal => r = .next (illegalCmd s)
  | .rejected => r = .next (rejectCmd s)
  | .refused => ∃ t, r = .next t ∧ RefusedTo s t
  | .accepted => Yields (KeepsSticky s) r

theorem answersCmd_writeCmd (w : Word) (s : State) : AnswersCmd (commandOutcome w s) s (writeCmd w s) := by
  unfold commandOutcome
  split
  · next e hd => exact writeCmd_of_illegal hd s
  · next i hd =>
    rw [writeCmd_of_decode hd]
    split_ifs with hrej href
    · exact exec_of_commandRejected hrej
    · exact exec_of_commandRefused (by simpa using hrej) href
    · exact keepsSticky_exec (by simpa using hrej)

end

end Sys2Proof.Machine
end

section
open Sys2Proof Sys2Proof.Machine

/-- Settles O60: the script tells the ends of a run apart, a quiet instance has no step of the kinds named, and a CMD
write is that of its decoded command in the case of its outcome. -/
theorem endsOfRunsAndCommands : Obligations.EndsOfRunsAndCommands := by
  refine ⟨fun _ _ _ => runEnds_unique, fun s hend => ?completed, fun s hend => ?stuck,
    fun n off size o a rest s t hoff ht ha hs => ?faulted, fun w s => ?command⟩
  case completed =>
    obtain ⟨htime, hquiet⟩ := Bool.and_eq_true_iff.mp hend
    refine ⟨fun m hm => isTime_iff.mp (List.all_eq_true.mp htime m hm), fun n t => ?_⟩
    have quiet {u : State} (hu : focusAt n s = some u) := instanceQuiet_iff.mp (everyInstance_iff.mp hquiet n u hu)
    refine ⟨fun r => move_bus_ne_next fun u hu => ?rule, fun d => move_bus_ne_next fun u hu => ?dma,
      fun b c => move_bus_ne_next fun u hu => ?tc, fun b d => move_bus_ne_next fun u hu => ?rc,
      fun v hv hbyte b => move_bus_ne_next fun u hu => ?stx⟩
    case rule =>
      obtain ⟨hidle, -, -⟩ := quiet hu
      exact stepRule_ne_next_of_quiet hidle r
    case dma =>
      obtain ⟨-, hidle, -⟩ := quiet hu
      exact dmaAgent_ne_next_of_idle hidle d
    case tc =>
      obtain ⟨-, -, howed⟩ := quiet hu
      exact deliver_tc_ne_next howed b c
    case rc =>
      obtain ⟨-, -, howed⟩ := quiet hu
      exact deliver_rc_ne_next howed b d
    case stx =>
      obtain rfl : v = u := Option.some.inj (hv.symm.trans hu)
      exact deliver_stx_ne_next hbyte b
  case stuck =>
    obtain ⟨hwait, hquiet⟩ := hend
    obtain ⟨hall, hpoll⟩ := hostWaits_iff.mp hwait
    refine ⟨fun hnil => by simp [hnil] at hpoll, fun m hm => ?_, fun t => step_of_waiting hwait,
      fun dt n r t => move_bus_ne_next fun u hu => ?_⟩
    · rcases isPollOrTime_cases (hall m hm) with htime | ⟨addr, u, rfl, -⟩
      · exact .inr htime
      · exact .inl ⟨addr, rfl⟩
    · have hidle : tcCanStep u = false := by simpa [tcQuiet] using everyInstance_iff.mp (hquiet dt) n u hu
      exact stepRule_ne_next_of_quiet hidle r
  case faulted =>
    have hfocus : focusHost (.reg n off) (s.withRest rest s.draws) = some (t.withRest rest s.draws, off) := by
      rw [focusHost_withRest, focusHost, ht]
      simp [hoff]
    rw [runEnds, runFaulted_iff hs]
    rcases ha with rfl | ⟨v, rfl⟩
    · simpa [hostAccess, hfocus] using hostRead_eq_hostAccess_iff
    · simpa [hostAccess, hfocus] using hostWrite_eq_hostAccess_iff
  case command =>
    have hcmd := answersCmd_writeCmd w s
    refine ⟨fun ho => ?_, fun ho => ?_, fun ho => ?_, fun ho => ?_⟩ <;> rw [ho] at hcmd
    · exact hcmd
    · exact hcmd
    · obtain ⟨_, ht, st, v, rfl, hcase⟩ := hcmd
      exact ⟨st, v, ht, hcase⟩
    · exact hcmd
end

section
/-!
SUPPORT. Host events (60_exceptions.md R294 to R298): the bit of an event, the interrupt request output, the claim and the
return from a handler.
-/

namespace Sys2Proof.Machine

section
variable {s : State} {e : HostEv}

/-! ### The interrupt request output (60 R295) -/

theorem irqLine_iff :
    irqLine s = true ↔ ∃ j, j < 5 ∧ s.tc.ev.irqPend.getLsbD j = true ∧ s.tc.cfg.irqEn.getLsbD j = true := by
  have hbits : ∀ w : BitVec 5, w ≠ 0 ↔ ∃ j, j < 5 ∧ w.getLsbD j = true := by decide
  rw [irqLine, bne_iff_ne, hbits]
  simp

/-! ### Raising an event (60 R294) -/

/-- The bit of an event in IRQ_EN, IRQ_PEND and IRQ_CLAIM. -/
def eventBit : HostEv → Nat
  | .srxDone => 0
  | .sreq => 1
  | .mtxDone => 2
  | .mrxDone => 3
  | .err => 4

theorem eventMask_eq (e : HostEv) : eventMask e = BitVec.twoPow 5 (eventBit e) := by cases e <;> rfl

theorem eventBit_lt (e : HostEv) : eventBit e < 5 := by cases e <;> decide

theorem raiseEv_of_disabled (h : s.tc.cfg.irqEn.getLsbD (eventBit e) = false) : raiseEv e s = s := by
  have hmask : eventMask e &&& s.tc.cfg.irqEn = 0 := by
    rw [eventMask_eq, BitVec.and_comm, BitVec.and_twoPow, h]
    rfl
  simp [raiseEv, hmask]

theorem raiseEv_of_enabled (h : s.tc.cfg.irqEn.getLsbD (eventBit e) = true) :
    raiseEv e s = { s with tc.ev.irqPend := s.tc.ev.irqPend ||| BitVec.twoPow 5 (eventBit e) } := by
  have hmask : eventMask e &&& s.tc.cfg.irqEn = BitVec.twoPow 5 (eventBit e) := by
    rw [eventMask_eq, BitVec.and_comm, BitVec.and_twoPow, h]
    rfl
  simp [raiseEv, hmask]

/-- Only the event's own bit is set. -/
theorem getLsbD_or_eventBit (p : BitVec 5) (e : HostEv) (j : Nat) :
    (p ||| BitVec.twoPow 5 (eventBit e)).getLsbD j = if j = eventBit e then true else p.getLsbD j := by
  by_cases hj : j = eventBit e
  · simp [hj, eventBit_lt]
  · simp [hj, Ne.symm hj]

/-! ### The claim and the return (60 R296, R298) -/

theorem hostRead_irqClaim : hostRead 0x3C 4 s = .next (returnValue ((claimed s).setWidth 32) (claim s)) := rfl

/-- The claim takes every event that is pending and enabled. -/
theorem irqLine_claim (s : State) : irqLine (claim s) = false := by
  have hcleared : ∀ p n : BitVec 5, p &&& ~~~(p &&& n) &&& n = 0 := by decide
  simp [irqLine, claim, claimed, hcleared]

theorem claim_isrDepth_of_empty (h : claimed s = 0) : (claim s).tc.ev.isrDepth = s.tc.ev.isrDepth := if_pos h

theorem claim_isrDepth_of_claimed (h : claimed s ≠ 0) :
    (claim s).tc.ev.isrDepth.toNat =
      if s.tc.ev.isrDepth.toNat = 255 then 255 else s.tc.ev.isrDepth.toNat + 1 := by
  have hsat : ∀ d : Byte, (if d = 255 then 255 else d + 1).toNat = if d.toNat = 255 then 255 else d.toNat + 1 := by
    decide
  exact (congrArg BitVec.toNat (if_neg h)).trans (hsat s.tc.ev.isrDepth)

theorem handlerReturn_isrDepth (s : State) :
    (handlerReturn s).tc.ev.isrDepth.toNat = s.tc.ev.isrDepth.toNat - 1 := by
  have hsat : ∀ d : Byte, (if d = 0 then 0 else d - 1).toNat = d.toNat - 1 := by decide
  exact hsat s.tc.ev.isrDepth

end

end Sys2Proof.Machine
end

section
open Sys2Proof.Machine

/-- Settles O22: EOI is the return from a handler. -/
theorem eoiEffect : Obligations.EoiEffect := fun s => ⟨_, rfl, handlerReturn_isrDepth s⟩

/-- Settles O31: the read is the claim, which takes every bit the output is made of. -/
theorem claimOpensHandler : Obligations.ClaimOpensHandler := by
  refine fun s => ⟨irqLine_iff, fun t h => ?_, _, hostRead_irqClaim, claim_isrDepth_of_empty, claim_isrDepth_of_claimed⟩
  rw [hostRead_irqClaim] at h
  cases h
  exact irqLine_claim s

/-- Settles O32: `bit` is the bit of the event, which the raise sets where it is enabled. -/
theorem raiseRespectsEnable : Obligations.RaiseRespectsEnable := by
  intro e s bit
  have hbit : bit = eventBit e := by cases e <;> rfl
  rw [hbit]
  refine ⟨raiseEv_of_disabled, fun h => ?_⟩
  have hpend := getLsbD_or_eventBit s.tc.ev.irqPend e
  rw [raiseEv_of_enabled h]
  exact ⟨irqLine_iff.mpr ⟨eventBit e, eventBit_lt e, by simp [hpend], h⟩, _, rfl, hpend⟩
end

section
/-!
SUPPORT. Power-on reset (70_reset_and_hazards.md R320, R322): what an instance after reset reads, and that it has no step.
-/

namespace Sys2Proof.Machine

section
variable {s : State}

/-- With no command in progress, no event in `lev` or `dev` and no edge recorded, no rule is enabled (70 R322). -/
theorem ruleEnabled_of_idle (hbusy : s.tc.cmd.busy = false) (hlev : s.tc.port.lev = none) (hdev : s.tc.port.dev = none)
    (hedge : s.tc.port.sdaRise = false) (r : Rule) : ruleEnabled r s = false := by
  cases r with
  | acquire | recover | timeout => simp [ruleEnabled, canAcquire, canRecover, canTimeout, hbusy]
  | txDone | addrDone => simp [ruleEnabled, canTxDone, canAddrDone, pendingTc, hlev]
  | rxByte | rxFinal => simp [ruleEnabled, canRxByte, canRxFinal, pendingRc, hlev]
  | bulkError => simp [ruleEnabled, canBulkError, pendingBulkError, hlev]
  | dmaDone | dmaError | dmaStale => simp [ruleEnabled, canDmaDone, canDmaError, canDmaStale, hdev]
  | boundary | dispatch => simp [ruleEnabled, canBoundary, canDispatch, pendingAddr, hlev]
  | slaveRx => simp [ruleEnabled, canSlaveRx, pendingSrx, hlev]
  | slaveTx => simp [ruleEnabled, canSlaveTx, pendingStx, hlev]
  | stopDetect => simp [ruleEnabled, canStopDetect, hlev]
  | sdaEdge => simp [ruleEnabled, canSdaEdge, hedge]
  | unexpected => simp [ruleEnabled, canUnexpected, isUnexpected, hlev]

theorem tcCanStep_of_ruleEnabled (h : ∀ r, ruleEnabled r s = false) : tcCanStep s = false := by
  simp [tcCanStep, h]

/-! ### What an instance after reset reads (70 R320) -/

section
variable {p : Params} {base : Nat} (h : s.tc = Tc.reset p base)
include h

theorem statusWord_of_reset : statusWord s = 0x10 := by
  simp only [statusWord, isDone, h, Tc.reset]
  decide

theorem configWord_of_reset : configWord s = 0x10 := by
  simp only [configWord, h, Tc.reset]
  decide

theorem readPop_of_reset : readPop s = .next { s with rdata := some 0xFFFFFFFF } :=
  readPop_of_none (by rw [h]; exact le_rfl)

theorem tcCanStep_of_reset : tcCanStep s = false := by
  refine tcCanStep_of_ruleEnabled (ruleEnabled_of_idle ?_ ?_ ?_ ?_) <;> rw [h] <;> rfl

end

end

end Sys2Proof.Machine
end

section
open Sys2Proof Sys2Proof.Machine

/-- Settles O55: `powerOn` writes the reset instance over all but the inputs, and that instance is at rest. -/
theorem powerOnReset : Obligations.PowerOnReset := by
  refine ⟨fun s => ⟨powerOn s, rfl, sameOutside_powerOn.mpr (.refl s), rfl, rfl, rfl, rfl, rfl, rfl, rfl, fun k => ?_,
    rfl⟩, fun p base s _ htc => ?_, forall_instances_reset fun base => ⟨base, rfl⟩⟩
  · cases k <;> rfl
  · have hthresh : regValue .dmaThresh s = 5 := by rw [regValue, htc]; rfl
    have hrate : regValue .rate s = p.rateReset := by rw [regValue, htc]; rfl
    exact ⟨hostRead_plain .status (statusWord_of_reset htc), hostRead_plain .config (configWord_of_reset htc),
      hostRead_plain .dmaThresh hthresh, hostRead_plain .rate hrate, readPop_of_reset htc, tcCanStep_of_reset htc⟩
end
